-- ==== Sys2Proof/Word.lean ====
section
/-! DEFINITION. The words software and the bus see as bits. -/

namespace Sys2Proof

/-- One byte of the local port (R143). -/
abbrev Byte := BitVec 8

/-- A round stamp: a 16-bit count that wraps (R23). -/
abbrev Stamp := BitVec 16

end Sys2Proof
end

