-- ==== Sys2Proof/Config.lean ====
section
/-! DEFINITION. The free value of the model: what the data book leaves open at this station. -/

namespace Sys2Proof

/-- FREE VALUE (log 2). Which of several timers that run out in the same reference tick is taken first.
R153 and R169 allow either order, so the choice has no body: nothing can be proved of it.
The argument is the counter `State.freeCount`, so every choice is a fresh one. -/
opaque Config.freeOrder : Nat → Nat

end Sys2Proof
end

