-- ==== Sys2Proof/Machine/Bits.lean ====
section
/-! DEFINITION. Bit and byte order (R171): the most significant bit first, the most significant byte first. -/

namespace Sys2Proof

/-- The number whose bits, most significant first, are `bits`. -/
def natOfBits (bits : List Bool) : Nat :=
  bits.foldl (fun n b => 2 * n + b.toNat) 0

/-- The byte of eight bits, most significant first. -/
def byteOfBits (bits : List Bool) : Byte :=
  BitVec.ofNat 8 (natOfBits bits)

/-- The bits of a byte in the order the port shifts them, most significant first (R143). -/
def bitsOfByte (b : Byte) : List Bool :=
  [b.getLsbD 7, b.getLsbD 6, b.getLsbD 5, b.getLsbD 4, b.getLsbD 3, b.getLsbD 2, b.getLsbD 1, b.getLsbD 0]

/-- The bits of several bytes in the order the port shifts them. -/
def bitsOfBytes (bs : List Byte) : List Bool :=
  bs.flatMap bitsOfByte

/-- A value of at most 255 as one byte. -/
def byteOf (n : Nat) : Byte :=
  BitVec.ofNat 8 n

/-- A value of at most 65535 as two bytes, the more significant first (R171). -/
def bytesOf16 (n : Nat) : List Byte :=
  [byteOf (n / 256), byteOf n]

/-- The bits of a byte from bit `hi` down to bit `lo`, as a number. -/
def bitField (hi lo : Nat) (b : Byte) : Nat :=
  b.toNat / 2 ^ lo % 2 ^ (hi + 1 - lo)

end Sys2Proof
end

