-- ==== Sys2Proof/Syntax.lean ====
section
/-! DEFINITION. The commands: one constructor of `Instr` per row of spec/opcode_table.json. -/

namespace Sys2Proof

/-- The 20 bytes of a configuration record (R172). -/
abbrev ConfigRecord := Vector Byte 20

/-- What the bytes of one local-port transaction ask for (R173): the eleven commands, and a byte that names none. -/
inductive PortCommand where
  | nop
  | getStatus
  | readEvent
  | peekTouches
  | readChannel (channel : Byte)
  | readPeers
  | writeConfig (record : ConfigRecord)
  | start
  | recalibrate (mask : Byte)
  | breakNetwork
  | setLamp (mode : Byte)
  | unknown (code : Byte)
deriving DecidableEq, Repr

/-- The commands the station takes, one per row of the table.
The rows of local-port commands are the moment at which that command is taken (R144). -/
inductive Instr where
  /-- RESET (R177): power-on, or RESETN goes low. -/
  | reset
  /-- RESET_END (R161, R177): RESETN rises, or power-on completes with RESETN high. -/
  | resetEnd
  /-- CSN_FALL (R144). -/
  | csnFall
  /-- CSN_RISE (R144, R158). -/
  | csnRise
  /-- NOP (R151). -/
  | nop
  /-- GET_STATUS (R146). -/
  | getStatus
  /-- READ_EVENT (R157). -/
  | readEvent
  /-- PEEK_TOUCHES (R147). -/
  | peekTouches
  /-- READ_CHANNEL (R148) with its argument byte. -/
  | readChannel (channel : Byte)
  /-- READ_PEERS (R151). -/
  | readPeers
  /-- WRITE_CONFIG (R135) with its 20 argument bytes. -/
  | writeConfig (record : ConfigRecord)
  /-- START (R137). -/
  | start
  /-- RECALIBRATE (R149) with its argument byte. -/
  | recalibrate (mask : Byte)
  /-- BREAK_NETWORK (R19). -/
  | breakNetwork
  /-- SET_LAMP (R150) with its argument byte. -/
  | setLamp (mode : Byte)
  /-- UNKNOWN_COMMAND (R145): a command byte that names no command. -/
  | unknownCommand (code : Byte)
  /-- SYNC_FALL (R1): the observed SYNC line goes low. -/
  | syncFall
  /-- SYNC_RISE (R1): the observed SYNC line goes high. `low` is the length of the low that ends, in reference
  ticks, as far as the idle steps have not counted it, from its fall, or from START where SYNC was low then (R18,
  log 5). `dat` is the level of DAT the bus engine samples: true is dominant, the logical 1. -/
  | syncRise (low : Nat) (dat : Bool)
  /-- ROUND_TIMER_EXPIRY (R8). -/
  | roundTimerExpiry
  /-- WINDOW_HOLD_END (R10). -/
  | windowHoldEnd
  /-- GAP_TIMER_EXPIRY (R12). -/
  | gapTimerExpiry
  /-- SLOT_INTERVAL_EXPIRY (R3). -/
  | slotIntervalExpiry
  /-- STROBE_END (R3). -/
  | strobeEnd
  /-- LONG_LOW (R14). -/
  | longLow
  /-- BREAK_DETECTED (R16). -/
  | breakDetected
  /-- COMMANDED_BREAK_END (R20). `otherHolds`: another station still holds SYNC when this one releases it (log 7). -/
  | commandedBreakEnd (otherHolds : Bool)
  /-- SYNC_STUCK (R18). -/
  | syncStuck
  /-- SETTLING_COMPLETE (R22). -/
  | settlingComplete
  /-- OSCILLATOR_CYCLE (R103): `cycles` complete cycles, one after another, of one channel's oscillator (log 13). -/
  | oscillatorCycle (channel : Fin 8) (cycles : Nat)
  /-- PROCESSING_OPERATION (R117): the operation in flight completes. -/
  | processingOperation
  /-- PRE_CLEAR_END (R166). -/
  | preClearEnd
  /-- POST_CLEAR_END (R168). -/
  | postClearEnd
  /-- MINIMUM_PUMP_TIMER_EXPIRY (R167). -/
  | minimumPumpTimerExpiry
  /-- PUMP_HIGH_TIME_END (R165). -/
  | pumpHighTimeEnd
  /-- PUMP_PERIOD_END (R165). -/
  | pumpPeriodEnd
  /-- SCK_RISING_EDGE (R143) with the level of SDI. -/
  | sckRisingEdge (sdi : Bool)
deriving DecidableEq, Repr

end Sys2Proof
end

