-- ==== Sys2Proof/Decode.lean ====
section
/-! DEFINITION. The command bytes of the local port (R173), decoded and encoded, and the table's words: no row of
spec/opcode_table.json gives bits, so no word spells a command. -/

namespace Sys2Proof

/-- The command that a word spells by the table's bits: none, since no row of the table gives bits. -/
def decodeTableWord (_nbits _w : Nat) : Option Instr :=
  none

/-- How many argument bytes follow a command byte (R173); a byte that names no command has none (R145). -/
def argumentBytes (code : Byte) : Nat :=
  if code = 0x13#8 then 1
  else if code = 0x20#8 then 20
  else if code = 0x30#8 then 1
  else if code = 0x32#8 then 1
  else 0

/-- Does the byte name one of the eleven commands of R173? -/
def namesCommand (code : Byte) : Bool :=
  [0x00#8, 0x10#8, 0x11#8, 0x12#8, 0x13#8, 0x14#8, 0x20#8, 0x21#8, 0x30#8, 0x31#8, 0x32#8].contains code

/-- The record made of a list of bytes, byte 0 first; bytes beyond the list read 0. -/
def recordOfBytes (bs : List Byte) : ConfigRecord :=
  Vector.ofFn fun i => bs.getD i.val 0#8

/-- The command of a code byte and its argument bytes (R173). -/
def commandOf (code : Byte) (args : List Byte) : PortCommand :=
  if code = 0x00#8 then .nop
  else if code = 0x10#8 then .getStatus
  else if code = 0x11#8 then .readEvent
  else if code = 0x12#8 then .peekTouches
  else if code = 0x13#8 then .readChannel (args.getD 0 0#8)
  else if code = 0x14#8 then .readPeers
  else if code = 0x20#8 then .writeConfig (recordOfBytes args)
  else if code = 0x21#8 then .start
  else if code = 0x30#8 then .recalibrate (args.getD 0 0#8)
  else if code = 0x31#8 then .breakNetwork
  else if code = 0x32#8 then .setLamp (args.getD 0 0#8)
  else .unknown code

/-- The command that the incoming bytes of a transaction spell, once its last incoming byte is there (R144). -/
def decodeCommand (bytes : List Byte) : Option PortCommand :=
  match bytes with
  | [] => none
  | code :: args => if args.length = argumentBytes code then some (commandOf code args) else none

/-- The incoming bytes of a command (R173). -/
def encodeCommand (c : PortCommand) : List Byte :=
  match c with
  | .nop => [0x00#8]
  | .getStatus => [0x10#8]
  | .readEvent => [0x11#8]
  | .peekTouches => [0x12#8]
  | .readChannel n => [0x13#8, n]
  | .readPeers => [0x14#8]
  | .writeConfig r => 0x20#8 :: r.toList
  | .start => [0x21#8]
  | .recalibrate m => [0x30#8, m]
  | .breakNetwork => [0x31#8]
  | .setLamp m => [0x32#8, m]
  | .unknown code => [code]

end Sys2Proof
end

