-- ==== Sys2Proof/Machine/State.lean ====
section
/-! DEFINITION. The station's state as plain data, block by block (00, Block diagram), and its state after reset. -/

namespace Sys2Proof.Machine

/-- The phases of the bus engine (section 1.2). -/
inductive Phase where
  | off | settling | idle | window | gap | quiet | presence | claim | bid | digestA | digestB | brk | breakDrive
deriving DecidableEq, Repr

/-- A station's standing on the surface (R68). -/
inductive Membership where
  | config | listen | member | conflict
deriving DecidableEq, Repr

/-- A timer: stopped, or running with so many reference ticks (125 ns) left. -/
abbrev Timer := Option Nat

/-- The bus engine (section 1.2). -/
structure Bus where
  phase : Phase
  /-- counts from 0 for the quiet slot (R5) -/
  slotIndex : Nat
  /-- claim slots completed in this round (R5) -/
  contestCount : Nat
  /-- within the current bid or digest pass (R5) -/
  bitIndex : Nat
  /-- R23 -/
  stamp : Stamp
  /-- R19 -/
  pendingBreak : Bool
  /-- R8 -/
  roundTimer : Timer
  /-- the station's own hold of SYNC in a window (R10, R14) -/
  holdTimer : Timer
  /-- R12 -/
  gapTimer : Timer
  /-- the slot-interval timer (R3) -/
  slotTimer : Timer
  /-- the strobe low time still to run: the station holds SYNC meanwhile (R3) -/
  strobeTimer : Timer
  /-- the idle-limit wait of SETTLING (R22) -/
  settleTimer : Timer
  /-- the commanded break still to drive: the station holds SYNC meanwhile (R20) -/
  breakTimer : Timer
  /-- the SYNC line as the receiver sees it is low (R1) -/
  lineLow : Bool
  /-- reference ticks of the present low since its observed fall (R1, R10); from START where SYNC was low then (R18) -/
  lowTicks : Nat
  /-- the break has been detected in the present BREAK_DRIVE (R16) -/
  driveBreakSeen : Bool
  /-- SYNC_STUCK has been reported for the present low (R18) -/
  stuckReported : Bool
  /-- the station drives DAT dominant (R2) -/
  datDrive : Bool
deriving DecidableEq, Repr

/-- A winner of the round (section 2.2). -/
structure Winner where
  strength : Nat
  position : Nat
deriving DecidableEq, Repr

/-- The bid latched at a claim slot (R27). -/
structure Bid where
  channel : Fin 8
  value : Nat
deriving DecidableEq, Repr

/-- The contest unit (section 2.2). -/
structure Contest where
  winners : List Winner
  won : Vector Bool 8
  suppressed : Vector Bool 8
  bidding : Bool
  bid : Option Bid
  lost : Bool
  /-- bits of the current contest, first sampled first -/
  assembly : List Bool
  faultMark : Bool
deriving DecidableEq, Repr

/-- A touch record (R44). -/
structure TouchRecord where
  id : Nat
  position : Nat
  strength : Nat
  miss : Nat
deriving DecidableEq, Repr

/-- The tracker: the touch list, oldest first (R45), and the next id (R46). -/
structure Tracker where
  touches : List TouchRecord
  nextId : Nat
deriving DecidableEq, Repr

/-- The part a station has in the digest passes of a round, decided at the first DIGEST_A fall (R71). -/
inductive DigestPart where
  /-- MEMBER: drives its digest -/
  | member
  /-- LISTEN with the forcing flag set: drives every slot dominant -/
  | forcing
  /-- LISTEN with the forcing flag clear: reads -/
  | listener
  /-- CONFLICT: reads and takes no outcome (R76) -/
  | silent
deriving DecidableEq, Repr

/-- The agreement unit (R68, R71, R72). -/
structure Agreement where
  membership : Membership
  listenRounds : Nat
  forcing : Bool
  latched : Option (BitVec 16)
  part : Option DigestPart
  /-- the bits of the pass A value read so far, most significant first -/
  passA : List Bool
  passB : List Bool
  difference : Bool
deriving DecidableEq, Repr

inductive PeerState where
  | absent | present | missing
deriving DecidableEq, Repr

/-- An entry of the peer table (R93). -/
structure PeerEntry where
  state : PeerState
  miss : Nat
  lastPresent : Stamp
deriving DecidableEq, Repr

/-- The peer table: 32 entries (R93) and the round's presence map, `none` while cleared (R91). -/
structure PeerTable where
  entries : Vector PeerEntry 32
  presence : Vector (Option Bool) 32
deriving DecidableEq, Repr

/-- The sense front end (R103, R105, R108, R111). -/
structure FrontEnd where
  /-- the oscillators run and the counters count -/
  counting : Bool
  counters : Vector Nat 8
  overrange : Vector Bool 8
  lastLength : Nat
  reportStamp : Stamp
  reportArmed : Bool
deriving DecidableEq, Repr

inductive ChannelState where
  | unused | calibrating | idle | pendingTouch | touched | pendingRelease
deriving DecidableEq, Repr

/-- An entry of the channel table (R116). `lastResult = none` is the invalid mark. -/
structure ChannelEntry where
  state : ChannelState
  baseline : Option Nat
  calSum : Nat
  calCount : Nat
  lastResult : Option Nat
  delta : Int
  strength : Nat
  filter : Nat
  hold : Nat
  reverse : Nat
deriving DecidableEq, Repr

/-- The results handed over at a window close, and the stamp of that window (R112, R130): a processing operation in
flight. A result `none` is the invalid mark. -/
structure HandOff where
  stamp : Stamp
  results : Vector (Option Nat) 8
deriving DecidableEq, Repr

/-- The channel processor (R116). -/
structure Processor where
  channels : Vector ChannelEntry 8
  blanket : Nat
  /-- bit n is the mark of channel n (R128) -/
  pendingMask : Byte
  inFlight : Option HandOff
  /-- ticks left until the operation in flight completes at the latest (R117, log 8) -/
  operationTimer : Timer
deriving DecidableEq, Repr

/-- The configuration store (R133, R136). -/
structure Store where
  record : ConfigRecord
  locked : Bool
deriving DecidableEq, Repr

inductive PortState where
  | idle | receiving | sending | ignoring
deriving DecidableEq, Repr

/-- The local port (R143, R144). -/
structure Port where
  state : PortState
  /-- the CSN pin is low -/
  csnLow : Bool
  /-- bits of the incoming byte so far, first shifted first -/
  rxBits : List Bool
  /-- incoming bytes completed in this transaction -/
  rxBytes : List Byte
  /-- the latched outgoing bytes, the status byte first -/
  tx : List Byte
  /-- bits of them that have been shifted out -/
  sent : Nat
deriving DecidableEq, Repr

inductive ClearCause where
  | mismatch | formation | brk | conflict
deriving DecidableEq, Repr

inductive FaultCause where
  | datStuck | phantom | syncStuck | roundAbandoned | windowAnomaly
deriving DecidableEq, Repr

inductive ChannelCause where
  | calibrated | holdLimit | blanket
deriving DecidableEq, Repr

/-- The kinds of event record with their fields (R152). -/
inductive Event where
  | touchDown (id position strength : Nat)
  | touchMove (id position strength : Nat)
  | touchUp (id position strength : Nat)
  | touchLost (id position strength : Nat)
  | netClear (cause : ClearCause)
  | membership (state : Membership)
  | peerJoin (address : Nat)
  | peerLeave (address : Nat)
  | busFault (cause : FaultCause)
  | channel (channel : Nat) (cause : ChannelCause)
  | overflow (lost : Nat)
deriving DecidableEq, Repr

/-- An event record: its kind and fields, and the round stamp it was queued with (R152). -/
structure EventRecord where
  stamp : Stamp
  event : Event
deriving DecidableEq, Repr

/-- What has become of the record that a READ_EVENT latched (R158). -/
inductive Latch where
  /-- at the head and unchanged -/
  | intact
  /-- at the head but changed by coalescing -/
  | changed
  /-- removed by supersession -/
  | gone
deriving DecidableEq, Repr

/-- The event queue (R153, R156), oldest record first. `latch`: a READ_EVENT answered DONE is in progress (R157). -/
structure EventQueue where
  records : List EventRecord
  lost : Nat
  latch : Option Latch
deriving DecidableEq, Repr

inductive LampMode where
  | off | follow | on
deriving DecidableEq, Repr

inductive LampPhase where
  | dark | preClear | pumping | postClear
deriving DecidableEq, Repr

/-- The indicator driver (R162). -/
structure Indicator where
  mode : LampMode
  demand : Bool
  phase : LampPhase
  clearTimer : Timer
  minPumpTimer : Timer
  elapsed : Bool
  /-- the high time of the present pump period is running -/
  pumpHigh : Bool
  /-- ticks into the present pump period -/
  pumpPos : Nat
deriving DecidableEq, Repr

/-- The whole station, and the commands that wait. -/
structure State where
  bus : Bus
  contest : Contest
  tracker : Tracker
  agreement : Agreement
  peers : PeerTable
  frontEnd : FrontEnd
  processor : Processor
  store : Store
  port : Port
  queue : EventQueue
  indicator : Indicator
  /-- RESETN is low, or power-on is in progress (R177) -/
  inReset : Bool
  /-- the commands that wait, the next one first -/
  pending : List Instr
  /-- how many free values have been taken: the model's own counter (log 2) -/
  freeCount : Nat
deriving DecidableEq, Repr

/-- The faults of the model: none. The data book has no trap and no undefined behaviour; BUS_FAULT records are data.
No meaning raises one, so the type has no constructor (safe). -/
inductive Fault where
deriving DecidableEq, Repr

/-- Why the model refuses a command. -/
inductive Refusal where
  /-- Raised by exec's arm of a command that has no meaning yet; safe. No arm is left so. -/
  | notModelled (mnemonic : String)
deriving DecidableEq, Repr

/-- Bus engine after reset (R21, R24). -/
def Bus.reset : Bus where
  phase := .off
  slotIndex := 0
  contestCount := 0
  bitIndex := 0
  stamp := 0#16
  pendingBreak := false
  roundTimer := none
  holdTimer := none
  gapTimer := none
  slotTimer := none
  strobeTimer := none
  settleTimer := none
  breakTimer := none
  lineLow := false
  lowTicks := 0
  driveBreakSeen := false
  stuckReported := false
  datDrive := false

/-- Contest unit after reset (R43), which is also its state at a window opening (R26). -/
def Contest.reset : Contest where
  winners := []
  won := Vector.replicate 8 false
  suppressed := Vector.replicate 8 false
  bidding := false
  bid := none
  lost := false
  assembly := []
  faultMark := false

/-- Tracker after reset (R67). -/
def Tracker.reset : Tracker where
  touches := []
  nextId := 1

/-- Agreement unit after reset (R69, R89). -/
def Agreement.reset : Agreement where
  membership := .config
  listenRounds := 0
  forcing := false
  latched := none
  part := none
  passA := []
  passB := []
  difference := false

/-- Peer table after reset (R93, R100). -/
def PeerTable.reset : PeerTable where
  entries := Vector.replicate 32 { state := .absent, miss := 0, lastPresent := 0#16 }
  presence := Vector.replicate 32 none

/-- Front end after reset (R114). -/
def FrontEnd.reset : FrontEnd where
  counting := false
  counters := Vector.replicate 8 0
  overrange := Vector.replicate 8 false
  lastLength := 0
  reportStamp := 0#16
  reportArmed := true

/-- A channel entry after reset (R132). -/
def ChannelEntry.reset : ChannelEntry where
  state := .unused
  baseline := none
  calSum := 0
  calCount := 0
  lastResult := none
  delta := 0
  strength := 0
  filter := 0
  hold := 0
  reverse := 0

/-- Channel processor after reset (R132). -/
def Processor.reset : Processor where
  channels := Vector.replicate 8 ChannelEntry.reset
  blanket := 0
  pendingMask := 0#8
  inFlight := none
  operationTimer := none

/-- Configuration store after reset (R134). -/
def Store.reset : Store where
  record := Vector.replicate 20 0#8
  locked := false

/-- Local port after a reset that ends with CSN high (R161). -/
def Port.reset : Port where
  state := .idle
  csnLow := false
  rxBits := []
  rxBytes := []
  tx := []
  sent := 0

/-- Event queue after reset (R161). -/
def EventQueue.reset : EventQueue where
  records := []
  lost := 0
  latch := none

/-- Indicator after reset (R170). -/
def Indicator.reset : Indicator where
  mode := .off
  demand := false
  phase := .dark
  clearTimer := none
  minPumpTimer := none
  elapsed := false
  pumpHigh := false
  pumpPos := 0

/-- The station right after reset has ended (R177). DESIGN CHOICE (log 10): CSN and the SYNC line are high then. -/
def State.reset : State where
  bus := Bus.reset
  contest := Contest.reset
  tracker := Tracker.reset
  agreement := Agreement.reset
  peers := PeerTable.reset
  frontEnd := FrontEnd.reset
  processor := Processor.reset
  store := Store.reset
  port := Port.reset
  queue := EventQueue.reset
  indicator := Indicator.reset
  inReset := false
  pending := []
  freeCount := 0

end Sys2Proof.Machine
end

