-- ==== Sys2Proof/Machine/Timing.lean ====
section
/-! DEFINITION. The fixed timing (section 11.8) in reference ticks of 125 ns: eight to the microsecond. -/

namespace Sys2Proof.Machine

/-- Ticks of so many microseconds (125 ns a tick). -/
def ticksOfMicros (n : Nat) : Nat := 8 * n

/-- Strobe low time, 2 µs (R3). -/
def strobeTicks : Nat := ticksOfMicros 2

/-- Slot interval, 8 µs (R3). -/
def slotTicks : Nat := ticksOfMicros 8

/-- Strobe limit, 20 µs (R4, R14). -/
def strobeLimit : Nat := ticksOfMicros 20

/-- Gap, 40 µs (R12). -/
def gapTicks : Nat := ticksOfMicros 40

/-- Latest end of the processing operation after the window close, 25 µs (R12, R117). -/
def operationTicks : Nat := ticksOfMicros 25

/-- Idle limit in SETTLING, 100 µs (R22). -/
def idleLimit : Nat := ticksOfMicros 100

/-- Break limit, 8 ms (R16). -/
def breakLimit : Nat := ticksOfMicros 8000

/-- Commanded break length, 12 ms (R20). -/
def breakDriveTicks : Nat := ticksOfMicros 12000

/-- Stuck report, 50 ms (R18). -/
def stuckLimit : Nat := ticksOfMicros 50000

end Sys2Proof.Machine
end

