-- ==== Sys2Proof/Machine/Operands.lean ====
section
/-! DEFINITION. The fields of the configuration record (R133, R172), their codes, and the argument forms of the local
port's commands (R173). A field's value is what its bits hold; only START judges it (R171). -/

namespace Sys2Proof.Machine

/-- Byte `i` of the record. -/
def recordByte (r : ConfigRecord) (i : Fin 20) : Byte := r[i]

/-- Field 1, address. -/
def cfgAddress (r : ConfigRecord) : Nat := bitField 7 2 (recordByte r 0)

/-- Field 24, initial lamp mode, as its code. -/
def cfgLampCode (r : ConfigRecord) : Nat := bitField 1 0 (recordByte r 0)

/-- Field 2, channel count. -/
def cfgChannelCount (r : ConfigRecord) : Nat := bitField 7 4 (recordByte r 1)

/-- Field 22, clear pulse, in units of 100 µs. -/
def cfgClearPulse (r : ConfigRecord) : Nat := bitField 3 0 (recordByte r 1)

/-- The byte of channel descriptor `n`, which is field 3 + n. -/
def cfgDescriptor (r : ConfigRecord) (n : Fin 8) : Byte := recordByte r ⟨2 + n.val, by omega⟩

/-- A descriptor's role code: 0 SELF, 1 PAIR. -/
def descriptorRole (d : Byte) : Nat := bitField 7 6 d

/-- A descriptor's drive pin. -/
def descriptorDrive (d : Byte) : Nat := bitField 5 3 d

/-- A descriptor's plate pin. -/
def descriptorPlate (d : Byte) : Nat := bitField 2 0 d

/-- Field 11, window W, in units of 10 µs. -/
def cfgWindow (r : ConfigRecord) : Nat := bitField 7 0 (recordByte r 10)

/-- Field 12, round period P, in ms. -/
def cfgPeriod (r : ConfigRecord) : Nat := bitField 7 0 (recordByte r 11)

/-- Field 13, touch threshold. -/
def cfgTouch (r : ConfigRecord) : Nat := 16 * bitField 7 0 (recordByte r 12) + bitField 7 4 (recordByte r 13)

/-- Field 14, release threshold. -/
def cfgRelease (r : ConfigRecord) : Nat := 256 * bitField 3 0 (recordByte r 13) + bitField 7 0 (recordByte r 14)

/-- Field 15, filter depth. -/
def cfgDepth (r : ConfigRecord) : Nat := bitField 7 5 (recordByte r 15)

/-- Field 17, suppression radius. -/
def cfgSuppression (r : ConfigRecord) : Nat := bitField 4 3 (recordByte r 15)

/-- Field 20, pump frequency select. -/
def cfgPumpSelect (r : ConfigRecord) : Nat := bitField 2 0 (recordByte r 15)

/-- Field 21, duty select. -/
def cfgDuty (r : ConfigRecord) : Nat := bitField 7 6 (recordByte r 16)

/-- Field 19, lift delay. -/
def cfgLiftDelay (r : ConfigRecord) : Nat := bitField 4 2 (recordByte r 16)

/-- Field 16, hold limit. -/
def cfgHoldLimit (r : ConfigRecord) : Nat := 256 * bitField 1 0 (recordByte r 16) + bitField 7 0 (recordByte r 17)

/-- Field 18, capture radius. -/
def cfgCapture (r : ConfigRecord) : Nat := bitField 7 4 (recordByte r 18)

/-- Field 23, minimum pump time, in units of 10 ms. -/
def cfgMinPump (r : ConfigRecord) : Nat := bitField 7 3 (recordByte r 19)

/-- The lamp mode of a mode code, in the record and in SET_LAMP's argument (R172, R173). -/
def lampModeOf (code : Nat) : Option LampMode :=
  match code with
  | 0 => some .off
  | 1 => some .follow
  | 2 => some .on
  | _ => none

/-- The station's own W in reference ticks (R108). -/
def windowTicks (r : ConfigRecord) : Nat := 80 * cfgWindow r

/-- The length of the round timer: P and the stagger of 100 µs for each address (R8). -/
def roundTicks (r : ConfigRecord) : Nat :=
  ticksOfMicros (1000 * cfgPeriod r) + ticksOfMicros (100 * cfgAddress r)

/-- The position of a channel of this station (00, Positions). -/
def positionOf (r : ConfigRecord) (n : Fin 8) : Nat := 8 * cfgAddress r + n.val

/-- Is the channel below the channel count? -/
def isConfigured (r : ConfigRecord) (n : Fin 8) : Bool := decide (n.val < cfgChannelCount r)

/-- The clear pulse in ticks (R162). -/
def clearTicks (r : ConfigRecord) : Nat := ticksOfMicros (100 * cfgClearPulse r)

/-- The minimum pump time in ticks (R162). -/
def minPumpTicks (r : ConfigRecord) : Nat := ticksOfMicros (10000 * cfgMinPump r)

/-- The pump period in ticks: 8000 divided by the frequency in kHz, which doubles with each select code (R165). -/
def pumpPeriod (r : ConfigRecord) : Nat := 8000 / 2 ^ cfgPumpSelect r

/-- The high time of a pump period: the period times the duty, with the fraction dropped (R165). -/
def pumpHighTicks (r : ConfigRecord) : Nat :=
  match cfgDuty r with
  | 0 => pumpPeriod r / 4
  | 1 => pumpPeriod r / 3
  | 2 => pumpPeriod r / 2
  | _ => 3 * pumpPeriod r / 4

/-- The channels in order. -/
def allChannels : List (Fin 8) := [0, 1, 2, 3, 4, 5, 6, 7]

/-- Does the mask name a channel at or beyond the channel count (R149)? -/
def maskBeyondCount (r : ConfigRecord) (mask : Byte) : Bool :=
  allChannels.any fun n => mask.getLsbD n.val && !isConfigured r n

end Sys2Proof.Machine
end

