-- ==== Sys2Proof/Machine/Formats.lean ====
section
/-! DEFINITION. The bytes of statuses, results and event records (R173, R174, R175). -/

namespace Sys2Proof.Machine

/-- The status codes (R145, R173). -/
inductive Status where
  | done | empty | busy | refusedState | badArgument
deriving DecidableEq, Repr

def Status.code (st : Status) : Byte :=
  match st with
  | .done => 0x01#8
  | .empty => 0x02#8
  | .busy => 0x03#8
  | .refusedState => 0x04#8
  | .badArgument => 0x05#8

def Membership.code (m : Membership) : Byte :=
  match m with
  | .config => 0#8
  | .listen => 1#8
  | .member => 2#8
  | .conflict => 3#8

/-- The bus phase class of GET_STATUS (R146): ROUND in WINDOW, GAP and the slot phases. -/
def Phase.classCode (p : Phase) : Byte :=
  match p with
  | .off => 0#8
  | .settling => 1#8
  | .idle => 2#8
  | .brk => 4#8
  | .breakDrive => 5#8
  | .window | .gap | .quiet | .presence | .claim | .bid | .digestA | .digestB => 3#8

def ChannelState.code (c : ChannelState) : Byte :=
  match c with
  | .unused => 0#8
  | .calibrating => 1#8
  | .idle => 2#8
  | .pendingTouch => 3#8
  | .touched => 4#8
  | .pendingRelease => 5#8

def PeerState.code (p : PeerState) : Nat :=
  match p with
  | .absent => 0
  | .present => 1
  | .missing => 2

def ClearCause.code (c : ClearCause) : Byte :=
  match c with
  | .mismatch => 1#8
  | .formation => 2#8
  | .brk => 3#8
  | .conflict => 4#8

def FaultCause.code (c : FaultCause) : Byte :=
  match c with
  | .datStuck => 1#8
  | .phantom => 2#8
  | .syncStuck => 3#8
  | .roundAbandoned => 4#8
  | .windowAnomaly => 5#8

def ChannelCause.code (c : ChannelCause) : Byte :=
  match c with
  | .calibrated => 1#8
  | .holdLimit => 2#8
  | .blanket => 3#8

def Event.kindCode (e : Event) : Byte :=
  match e with
  | .touchDown .. => 0x01#8
  | .touchMove .. => 0x02#8
  | .touchUp .. => 0x03#8
  | .touchLost .. => 0x04#8
  | .netClear _ => 0x08#8
  | .membership _ => 0x09#8
  | .peerJoin _ => 0x0A#8
  | .peerLeave _ => 0x0B#8
  | .busFault _ => 0x0C#8
  | .channel .. => 0x0D#8
  | .overflow _ => 0x0F#8

/-- Bytes 3 to 7 of a record: the kind's own fields, 0 where it has none (R152, R175). -/
def Event.fieldBytes (e : Event) : List Byte :=
  match e with
  | .touchDown id p st | .touchMove id p st | .touchUp id p st | .touchLost id p st =>
    [byteOf id, byteOf p] ++ bytesOf16 st ++ [0#8]
  | .netClear c => [c.code, 0#8, 0#8, 0#8, 0#8]
  | .membership m => [m.code, 0#8, 0#8, 0#8, 0#8]
  | .peerJoin a | .peerLeave a => [byteOf a, 0#8, 0#8, 0#8, 0#8]
  | .busFault c => [c.code, 0#8, 0#8, 0#8, 0#8]
  | .channel n c => [byteOf n, c.code, 0#8, 0#8, 0#8]
  | .overflow n => [byteOf n, 0#8, 0#8, 0#8, 0#8]

/-- The 8 bytes of an event record (R175). -/
def EventRecord.bytes (r : EventRecord) : List Byte :=
  r.event.kindCode :: (bytesOf16 r.stamp.toNat ++ r.event.fieldBytes)

/-- The 8 result bytes of GET_STATUS (R174). -/
def statusBytes (s : State) : List Byte :=
  [s.agreement.membership.code, s.bus.phase.classCode, byteOf s.queue.records.length, byteOf s.queue.lost]
    ++ bytesOf16 s.bus.stamp.toNat ++ [byteOf s.tracker.nextId, byteOf s.tracker.touches.length]

/-- The five bytes of a touch record in PEEK_TOUCHES (R174). -/
def TouchRecord.bytes (t : TouchRecord) : List Byte :=
  [byteOf t.id, byteOf t.position] ++ bytesOf16 t.strength ++ [byteOf t.miss]

/-- The result bytes of PEEK_TOUCHES (R174). -/
def touchBytes (t : Tracker) : List Byte :=
  byteOf t.touches.length :: t.touches.flatMap TouchRecord.bytes

/-- The 8 result bytes of READ_CHANNEL (R174): the validity byte has bit 1 for a baseline, bit 0 for a sample. -/
def ChannelEntry.bytes (c : ChannelEntry) : List Byte :=
  [c.state.code, byteOf (2 * c.baseline.isSome.toNat + c.lastResult.isSome.toNat)]
    ++ bytesOf16 (c.baseline.getD 0) ++ bytesOf16 (c.lastResult.getD 0) ++ bytesOf16 c.strength

/-- The three bytes of a peer entry in READ_PEERS (R174). -/
def PeerEntry.bytes (p : PeerEntry) : List Byte :=
  byteOf (4 * p.state.code + p.miss) :: bytesOf16 p.lastPresent.toNat

/-- The 96 result bytes of READ_PEERS, in ascending order of address (R174). -/
def peerBytes (t : PeerTable) : List Byte :=
  t.entries.toList.flatMap PeerEntry.bytes

end Sys2Proof.Machine
end

