-- ==== Sys2Proof/Machine/Flags.lean ====
section
/-! DEFINITION. What is seen at the pins, computed from the state (R1, R101, R143, R160, R164, R177), and the tests the
rules make on the state. A level stands at its pin where a tick passes: the model's choice (log 28). -/

namespace Sys2Proof.Machine

/-- QUIET, PRESENCE, CLAIM, BID, DIGEST_A and DIGEST_B (section 1.2). -/
def Phase.isSlot (p : Phase) : Bool :=
  match p with
  | .quiet | .presence | .claim | .bid | .digestA | .digestB => true
  | .off | .settling | .idle | .window | .gap | .brk | .breakDrive => false

/-- The station pulls SYNC low: its strobe, its window hold or its commanded break runs (R1). -/
def State.holdsSync (s : State) : Bool :=
  s.bus.strobeTimer.isSome || s.bus.holdTimer.isSome || s.bus.breakTimer.isSome

/-- The ATTN pin is held low exactly while a record is held (R160). -/
def State.attnLow (s : State) : Bool :=
  !s.queue.records.isEmpty

/-- The PUMP pin is high: in the high time of a period of PUMPING (R164, R165). -/
def State.pumpPin (s : State) : Bool :=
  s.indicator.phase == .pumping && s.indicator.pumpHigh

/-- The CLEAR pin is high: in PRE_CLEAR and POST_CLEAR (R164). In a DARK that is left at the moment it is entered the low
computed here does not show at the pin (log 28). -/
def State.clearPin (s : State) : Bool :=
  s.indicator.phase == .preClear || s.indicator.phase == .postClear

/-- The bit of the outgoing bytes that SDO presents; beyond the last result byte, 0 (R143). -/
def Port.outgoingBit (p : Port) : Bool :=
  (bitsOfBytes p.tx).getD p.sent false

/-- The level of SDO, `none` for high impedance (R143, R161): while receiving the port sends 00h. -/
def State.sdo (s : State) : Option Bool :=
  match s.port.state with
  | .receiving => some false
  | .sending => some s.port.outgoingBit
  | .idle | .ignoring => none

/-- What a sense pin shows (R101). -/
inductive SensePin where
  | heldLow | oscillating
deriving DecidableEq, Repr

/-- A sense pin carries an oscillator while a count runs and it is the drive pin of a configured channel; it is held low
otherwise, and always from reset until START (R101, R103, R177). -/
def State.sensePin (s : State) (pin : Fin 8) : SensePin :=
  if s.frontEnd.counting && (allChannels.any fun n =>
      isConfigured s.store.record n && descriptorDrive (cfgDescriptor s.store.record n) == pin.val) then
    .oscillating
  else .heldLow

/-- Does the bus engine apply the break limit (R16): in any phase but OFF and SETTLING, and once for each break? -/
def Bus.breakApplies (b : Bus) : Bool :=
  match b.phase with
  | .off | .settling | .brk => false
  | .breakDrive => !b.driveBreakSeen
  | .idle | .window | .gap | .quiet | .presence | .claim | .bid | .digestA | .digestB => true

/-- Eligible to bid (R129). -/
def ChannelEntry.eligible (c : ChannelEntry) : Bool :=
  c.state == .touched || c.state == .pendingRelease

/-- The station drives in the digest passes of this round (R71). -/
def Agreement.isDriver (a : Agreement) : Bool :=
  a.part == some .member || a.part == some .forcing

/-- This station's bid is still in the contest: its bidding flag set and its lost flag clear (R30, R34). -/
def Contest.inContest (c : Contest) : Bool :=
  c.bidding && !c.lost

/-- The distance of two positions (R37, R50). -/
def distance (a b : Nat) : Nat :=
  if a ≤ b then b - a else a - b

end Sys2Proof.Machine
end

