-- ==== Sys2Proof/Machine/Ops.lean ====
section
/-! DEFINITION. The shared operations: the event queue's arrivals and removals (R153 to R159), queuing a record with the
present round stamp (R23, R152), and the running of timers. -/

namespace Sys2Proof.Machine

/-! ## Arrivals at the event queue -/

/-- A TOUCH_MOVE for this id. -/
def EventRecord.isMoveOf (id : Nat) (r : EventRecord) : Bool :=
  match r.event with
  | .touchMove i _ _ => i == id
  | _ => false

/-- A TOUCH_UP or TOUCH_LOST for this id: the end of a touch (R155). -/
def EventRecord.isEndOf (id : Nat) (r : EventRecord) : Bool :=
  match r.event with
  | .touchUp i _ _ | .touchLost i _ _ => i == id
  | _ => false

/-- Append at the tail, or discard and count where 16 records are held (R153, R156). -/
def EventQueue.append (r : EventRecord) (q : EventQueue) : EventQueue :=
  if q.records.length < 16 then { q with records := q.records ++ [r] }
  else { q with lost := min 255 (q.lost + 1) }

/-- A TOUCH_MOVE for `id` arrives while one is held at place `i`: it coalesces into that record (R154), unless the touch
has ended since, when it supersedes it (R155). The record at the head is the one a READ_EVENT has latched. -/
def EventQueue.meetMove (id i : Nat) (r : EventRecord) (q : EventQueue) : EventQueue :=
  if (q.records.drop (i + 1)).any (EventRecord.isEndOf id) then
    { q with
      records := q.records.eraseIdx i ++ [r]
      latch := if i = 0 then q.latch.map (fun _ => Latch.gone) else q.latch }
  else
    { q with
      records := q.records.set i r
      latch := if i = 0 then q.latch.map (fun l => if l = .intact then .changed else l) else q.latch }

/-- A record arrives (R153 to R156). -/
def EventQueue.arrive (r : EventRecord) (q : EventQueue) : EventQueue :=
  match r.event with
  | .touchMove id _ _ =>
    match q.records.findIdx? (EventRecord.isMoveOf id) with
    | some i => q.meetMove id i r
    | none => q.append r
  | _ => q.append r

/-- A completed READ_EVENT removes the head; where records have been lost, an OVERFLOW record with the present stamp
takes the tail and the lost count returns to 0 (R158, R159). -/
def EventQueue.removeHead (stamp : Stamp) (q : EventQueue) : EventQueue :=
  if q.lost = 0 then { q with records := q.records.tail }
  else { q with records := q.records.tail ++ [{ stamp := stamp, event := .overflow q.lost }], lost := 0 }

/-- Queue a record with a given stamp. -/
def State.queueAt (stamp : Stamp) (e : Event) (s : State) : State :=
  { s with queue := s.queue.arrive { stamp := stamp, event := e } }

/-- Queue a record with the round stamp as it stands (R23). -/
def State.record (e : Event) (s : State) : State :=
  s.queueAt s.bus.stamp e

/-- Queue several records in order. -/
def State.recordAll (es : List Event) (s : State) : State :=
  es.foldl (fun s e => s.record e) s

/-! ## Timers -/

/-- One reference tick of a running timer. -/
def Timer.tick (t : Timer) : Timer :=
  t.map (· - 1)

/-- The timer runs and its time is up. -/
def Timer.isDue (t : Timer) : Bool :=
  t == some 0

/-- The present low has lasted at least `n` ticks: what a command that reports a low's length says (log 4, log 5). -/
def Bus.lowAtLeast (n : Nat) (b : Bus) : Bus :=
  { b with lowTicks := max b.lowTicks n }

/-! ## The outgoing bytes of the local port -/

/-- The command is taken: the port enters SENDING with the status byte and the result bytes latched (R144). -/
def State.answer (st : Status) (results : List Byte) (s : State) : State :=
  { s with port :=
    { s.port with state := .sending, rxBits := [], rxBytes := [], tx := st.code :: results, sent := 0 } }

/-- A local-port command can be taken only in RECEIVING (R144); in any other state its row cannot come (log 3). -/
def State.whenReceiving (take : State → State) (s : State) : State :=
  if s.port.state = .receiving then take s else s

end Sys2Proof.Machine
end

