-- ==== Sys2Proof/Machine/FrontEnd.lean ====
section
/-! DEFINITION. The sense front end: counting (R103 to R107), normalization (R108, R109), anomalies (R110, R111) and the
hand-off (R112). -/

namespace Sys2Proof.Machine

/-- A count begins: counters 0, overrange marks clear, oscillators running (R104). -/
def FrontEnd.beginCount (f : FrontEnd) : FrontEnd :=
  { f with counting := true, counters := Vector.replicate 8 0, overrange := Vector.replicate 8 false }

/-- A count ends: the oscillators stop and the counters stay as they are (R103, R106, R107, log 17). -/
def FrontEnd.endCount (f : FrontEnd) : FrontEnd :=
  { f with counting := false }

/-- `cycles` complete cycles of a channel: the counter stops at 65535, and a cycle beyond it sets the overrange mark
(R103, R105). -/
def FrontEnd.countCycles (n : Fin 8) (cycles : Nat) (f : FrontEnd) : FrontEnd :=
  { f with
    counters := f.counters.set n (min 65535 (f.counters[n] + cycles))
    overrange := f.overrange.set n (f.overrange[n] || decide (65535 < f.counters[n] + cycles)) }

/-- The window is accepted (R110). -/
def windowAccepted (wTicks t : Nat) : Bool :=
  decide (wTicks ≤ t) && decide (t ≤ 4 * wTicks)

/-- The result of a configured channel: a sample, or `none` for the invalid mark (R109, R110). -/
def windowResult (wTicks t count : Nat) (overrange : Bool) : Option Nat :=
  if windowAccepted wTicks t && !overrange then some (count * wTicks / t) else none

/-- The results of a window of length `t` (R109, R110, R112); channels that are not configured give none. -/
def FrontEnd.results (r : ConfigRecord) (t : Nat) (f : FrontEnd) : Vector (Option Nat) 8 :=
  Vector.ofFn fun n =>
    if isConfigured r n then windowResult (windowTicks r) t f.counters[n] f.overrange[n] else none

/-- An anomalous window is reported: the report is armed, or at least 64 rounds have passed since the last (R111). -/
def FrontEnd.reportsAnomaly (stamp : Stamp) (f : FrontEnd) : Bool :=
  f.reportArmed || decide (64 ≤ (stamp - f.reportStamp).toNat)

/-- The report of an anomalous window (R111). -/
def State.reportAnomaly (s : State) : State :=
  if s.frontEnd.reportsAnomaly s.bus.stamp then
    { s with frontEnd := { s.frontEnd with reportStamp := s.bus.stamp, reportArmed := false } }.record
      (.busFault .windowAnomaly)
  else s

end Sys2Proof.Machine
end

