-- ==== Sys2Proof/Machine/Channels.lean ====
section
/-! DEFINITION. The channel processor: the processing operation (R117), calibration (R119, R126), the filter (R121), the
baseline (R122, R123), the limits (R124, R125) and recalibration (R127, R128). -/

namespace Sys2Proof.Machine

/-- Entry into CALIBRATING, whatever its cause: the last result is kept (R126). -/
def ChannelEntry.enterCalibrating (c : ChannelEntry) : ChannelEntry :=
  { ChannelEntry.reset with state := .calibrating, lastResult := c.lastResult }

/-- A valid sample in CALIBRATING: the fourth gives the baseline and takes the channel to IDLE (R119). -/
def ChannelEntry.calibrate (sample : Nat) (c : ChannelEntry) : ChannelEntry :=
  if c.calCount < 3 then
    { c with lastResult := some sample, calSum := c.calSum + sample, calCount := c.calCount + 1 }
  else
    { ChannelEntry.reset with
      state := .idle
      lastResult := some sample
      baseline := some ((c.calSum + sample) / 4) }

/-- The signed departure from the baseline (R120): a touch lowers the count of a SELF channel (role 0) and raises that of a
PAIR channel. -/
def deltaOf (role baseline sample : Nat) : Int :=
  if role = 0 then (baseline : Int) - sample else (sample : Int) - baseline

/-- Strength: the delta limited to 0..4095 (R120). -/
def strengthOf (delta : Int) : Nat :=
  min 4095 delta.toNat

/-- The filter: the new state and filter counter (R121), from the touch threshold, the release threshold and the filter
depth. -/
def filterStep (touch release depth : Nat) (st : ChannelState) (counter : Nat) (delta : Int) : ChannelState × Nat :=
  match st with
  | .idle =>
    if delta < touch then (.idle, 0) else if depth = 1 then (.touched, 0) else (.pendingTouch, 1)
  | .pendingTouch =>
    if delta < touch then (.idle, 0)
    else if counter + 1 < depth then (.pendingTouch, counter + 1) else (.touched, 0)
  | .touched =>
    if (release : Int) ≤ delta then (.touched, 0) else if depth = 1 then (.idle, 0) else (.pendingRelease, 1)
  | .pendingRelease =>
    if (release : Int) ≤ delta then (.touched, 0)
    else if counter + 1 < depth then (.pendingRelease, counter + 1) else (.idle, 0)
  | .unused | .calibrating => (st, counter)

/-- One tracking step of the baseline toward the sample: a sixteenth of the difference, at least 1 (R122). -/
def trackBaseline (baseline sample : Nat) : Nat :=
  let step := max 1 (distance sample baseline / 16)
  if baseline < sample then min sample (baseline + step)
  else if sample < baseline then max sample (baseline - step)
  else baseline

/-- Baseline and reverse counter after a valid sample, judged by the state before the filter step (R122, R123). -/
def followBaseline (touch depth : Nat) (st : ChannelState) (baseline reverse sample : Nat) (delta : Int) : Nat × Nat :=
  if st = .idle then
    if delta ≤ -(touch : Int) then
      if depth ≤ reverse + 1 then (sample, 0) else (baseline, reverse + 1)
    else if delta < touch then (trackBaseline baseline sample, 0)
    else (baseline, 0)
  else (baseline, reverse)

/-- The hold counter after the filter step (R124). -/
def holdStep (limit : Nat) (st : ChannelState) (hold : Nat) : Nat :=
  if limit = 0 then hold
  else if st = .touched ∨ st = .pendingRelease then hold + 1
  else 0

/-- A valid sample in a channel that has a baseline (R120 to R123), and the hold counter (R124), before the hold limit is
judged. -/
def ChannelEntry.filterSample (r : ConfigRecord) (n : Fin 8) (sample : Nat) (c : ChannelEntry) : ChannelEntry :=
  let base := c.baseline.getD 0
  let delta := deltaOf (descriptorRole (cfgDescriptor r n)) base sample
  let f := filterStep (cfgTouch r) (cfgRelease r) (cfgDepth r) c.state c.filter delta
  let b := followBaseline (cfgTouch r) (cfgDepth r) c.state base c.reverse sample delta
  { c with
    state := f.1
    baseline := some b.1
    lastResult := some sample
    delta := delta
    strength := strengthOf delta
    filter := f.2
    hold := holdStep (cfgHoldLimit r) f.1 c.hold
    reverse := b.2 }

/-- The hold limit is exceeded (R124). -/
def ChannelEntry.overHeld (limit : Nat) (c : ChannelEntry) : Bool :=
  decide (limit ≠ 0) && c.eligible && decide (limit < c.hold)

/-- The update of one channel from its result, and the record it queues (R118, R119, R120 to R124). -/
def updateChannel (r : ConfigRecord) (n : Fin 8) (result : Option Nat) (c : ChannelEntry) :
    ChannelEntry × Option Event :=
  match result, c.state with
  | none, _ => ({ c with lastResult := none }, none)
  | some _, .unused => (c, none)
  | some v, .calibrating =>
    (c.calibrate v, if c.calCount < 3 then none else some (.channel n.val .calibrated))
  | some v, .idle | some v, .pendingTouch | some v, .touched | some v, .pendingRelease =>
    let d := c.filterSample r n v
    if d.overHeld (cfgHoldLimit r) then (d.enterCalibrating, some (.channel n.val .holdLimit)) else (d, none)

/-- The update of channel `n` in the operation; a channel that is not configured takes no part (R116, R117). -/
def Processor.updated (r : ConfigRecord) (h : HandOff) (p : Processor) (n : Fin 8) : ChannelEntry × Option Event :=
  if isConfigured r n then updateChannel r n h.results[n] p.channels[n] else (p.channels[n], none)

/-- Every channel that `named` names enters CALIBRATING (R126). -/
def calibrateWhere (named : Fin 8 → Bool) (cs : Vector ChannelEntry 8) : Vector ChannelEntry 8 :=
  Vector.ofFn fun n => if named n then cs[n].enterCalibrating else cs[n]

/-- The blanket counter after the channels have been updated (R125); 64 means that every configured channel is held. -/
def blanketStep (r : ConfigRecord) (h : HandOff) (cs : Vector ChannelEntry 8) (blanket : Nat) : Nat :=
  if cfgChannelCount r < 2 then blanket
  else if allChannels.any fun n => isConfigured r n && h.results[n].isNone then blanket
  else if allChannels.all fun n => !isConfigured r n || cs[n].state == .touched then blanket + 1
  else 0

/-- The channel table and the records of an operation, the blanket evaluation included (R117, R125, R130). -/
def Processor.operate (r : ConfigRecord) (h : HandOff) (p : Processor) : Processor × List Event :=
  let cs : Vector ChannelEntry 8 := Vector.ofFn fun n => (p.updated r h n).1
  let es := allChannels.filterMap fun n => (p.updated r h n).2
  let b := blanketStep r h cs p.blanket
  if 64 ≤ b then
    ({ p with channels := calibrateWhere (isConfigured r) cs, blanket := 0 }, es ++ [.channel 0 .blanket])
  else ({ p with channels := cs, blanket := b }, es)

/-- The end of an operation: the channels of the pending mask enter CALIBRATING and the mask is cleared (R128). -/
def Processor.finish (p : Processor) : Processor :=
  { p with
    channels := calibrateWhere (fun n => p.pendingMask.getLsbD n.val) p.channels
    pendingMask := 0#8
    inFlight := none
    operationTimer := none }

/-- The processing operation in flight completes (R117). Its records carry the stamp of its window (R130, log 9). -/
def State.completeOperation (s : State) : State :=
  match s.processor.inFlight with
  | none => s
  | some h =>
    let r := s.processor.operate s.store.record h
    r.2.foldl (fun t e => t.queueAt h.stamp e) { s with processor := r.1.finish }

/-- The hand-off begins a processing operation (R112). -/
def State.beginOperation (results : Vector (Option Nat) 8) (s : State) : State :=
  { s with processor :=
    { s.processor with
      inFlight := some { stamp := s.bus.stamp, results := results }
      operationTimer := some operationTicks } }

/-- A RECALIBRATE that has been taken: at once, or deferred to the end of the operation in flight (R127, R128). -/
def Processor.recalibrate (mask : Byte) (p : Processor) : Processor :=
  match p.inFlight with
  | none => { p with channels := calibrateWhere (fun n => mask.getLsbD n.val) p.channels }
  | some _ => { p with pendingMask := p.pendingMask ||| mask }

/-- START sets the configured channels CALIBRATING and the others UNUSED (R132). -/
def Processor.start (r : ConfigRecord) (p : Processor) : Processor :=
  { p with channels := calibrateWhere (isConfigured r) p.channels, blanket := 0, pendingMask := 0#8 }

end Sys2Proof.Machine
end

