-- ==== Sys2Proof/Machine/Indicator.lean ====
section
/-! DEFINITION. The indicator driver: demand (R163), the phases (R164 to R168) and the mode (R169). -/

namespace Sys2Proof.Machine

/-- Demand as derived from the mode and the touch list (R163). -/
def demandOf (r : ConfigRecord) (mode : LampMode) (touches : List TouchRecord) : Bool :=
  match mode with
  | .off => false
  | .on => true
  | .follow => touches.any fun t => t.position / 8 == cfgAddress r

/-- Enter PRE_CLEAR: the clear-pulse timer starts for the clear pulse length (R166). -/
def Indicator.enterPreClear (r : ConfigRecord) (i : Indicator) : Indicator :=
  { i with phase := .preClear, clearTimer := some (clearTicks r) }

/-- Enter PUMPING: PUMP begins its first period and the minimum-pump timer starts; a minimum of 0 is taken as elapsed at
the entry (R166, R167). -/
def Indicator.enterPumping (r : ConfigRecord) (i : Indicator) : Indicator :=
  { i with
    phase := .pumping
    clearTimer := none
    minPumpTimer := if minPumpTicks r = 0 then none else some (minPumpTicks r)
    elapsed := decide (minPumpTicks r = 0)
    pumpHigh := true
    pumpPos := 0 }

/-- Enter POST_CLEAR: PUMP goes low in the middle of its period if need be, and the clear-pulse timer starts
(R164, R167). The elapsed mark stays as it was and the pump position is 0 outside PUMPING: the model's choice (log 27). -/
def Indicator.enterPostClear (r : ConfigRecord) (i : Indicator) : Indicator :=
  { i with
    phase := .postClear
    clearTimer := some (clearTicks r)
    minPumpTimer := none
    pumpHigh := false
    pumpPos := 0 }

/-- Enter DARK: no timer runs (R164). -/
def Indicator.enterDark (i : Indicator) : Indicator :=
  { i with phase := .dark, clearTimer := none }

/-- Demand rises or falls to `d`, taken in the present phase (R166 to R168). -/
def Indicator.demandChanges (r : ConfigRecord) (d : Bool) (i : Indicator) : Indicator :=
  let j := { i with demand := d }
  match i.phase with
  | .dark => if d then j.enterPreClear r else j
  | .preClear | .postClear => j
  | .pumping => if !d && i.elapsed then j.enterPostClear r else j

/-- Derive demand again; a value that demand already holds changes nothing (R163). -/
def State.deriveDemand (s : State) : State :=
  let d := demandOf s.store.record s.indicator.mode s.tracker.touches
  if d = s.indicator.demand then s
  else { s with indicator := s.indicator.demandChanges s.store.record d }

/-- Set the mode and derive demand again (R169). -/
def State.setMode (m : LampMode) (s : State) : State :=
  { s with indicator := { s.indicator with mode := m } }.deriveDemand

/-- The clear-pulse timer expires in PRE_CLEAR (R166). -/
def Indicator.preClearEnds (r : ConfigRecord) (i : Indicator) : Indicator :=
  if i.demand then i.enterPumping r else i.enterDark

/-- The clear-pulse timer expires in POST_CLEAR: DARK, left at once for PRE_CLEAR where demand is true (R168). -/
def Indicator.postClearEnds (r : ConfigRecord) (i : Indicator) : Indicator :=
  if i.demand then i.enterDark.enterPreClear r else i.enterDark

/-- The minimum-pump timer expires: the mark is set, and a fall of demand not yet answered is answered (R167). -/
def Indicator.minPumpExpires (r : ConfigRecord) (i : Indicator) : Indicator :=
  let j := { i with minPumpTimer := none, elapsed := true }
  if i.demand then j else j.enterPostClear r

end Sys2Proof.Machine
end

