-- ==== Sys2Proof/Machine/Tracker.lean ====
section
/-! DEFINITION. The touch tracker: the tracking step (R48 to R57), the clear (R58), adoption (R62), and the checksum and
digest (R63, R64). -/

namespace Sys2Proof.Machine

/-! ## Checksum and digest -/

/-- The checksum's terms of the records from list index `k` on, not yet reduced (R63). -/
def checksumFrom (k : Nat) (ts : List TouchRecord) : Nat :=
  match ts with
  | [] => 0
  | t :: rest => t.id + t.position + t.miss + 37 * (k + 1) + checksumFrom (k + 1) rest

/-- The checksum of the touch list (R63). -/
def Tracker.checksum (t : Tracker) : Nat :=
  checksumFrom 0 t.touches % 256

/-- The digest: next id above, checksum below (R64). -/
def Tracker.digest (t : Tracker) : BitVec 16 :=
  BitVec.ofNat 16 (256 * t.nextId + t.checksum)

/-! ## The tracking step -/

/-- A touch record in the course of a tracking step, and whether a winner has matched it. -/
structure Candidate where
  touch : TouchRecord
  matched : Bool
deriving DecidableEq, Repr

/-- The place of the unmatched record nearest to `pos` within `radius`, the earliest at equal distance (R50).
`best` is the place and distance found before place `i`. -/
def nearestFrom (radius pos i : Nat) (best : Option (Nat × Nat)) (cs : List Candidate) : Option Nat :=
  match cs with
  | [] => best.map Prod.fst
  | c :: rest =>
    let d := distance c.touch.position pos
    let closer := match best with
      | none => true
      | some b => decide (d < b.2)
    if !c.matched && decide (d ≤ radius) && closer then nearestFrom radius pos (i + 1) (some (i, d)) rest
    else nearestFrom radius pos (i + 1) best rest

/-- The match stage's work so far: the records, the winners left unmatched, and the records queued. -/
structure MatchWork where
  candidates : List Candidate
  unmatched : List Winner
  events : List Event
deriving DecidableEq, Repr

/-- One winner takes its record: position, strength and miss count, and a TOUCH_MOVE where the position changed (R51). -/
def MatchWork.take (w : Winner) (i : Nat) (c : Candidate) (m : MatchWork) : MatchWork :=
  { candidates := m.candidates.set i
      { touch := { c.touch with position := w.position, strength := w.strength, miss := 0 }, matched := true }
    unmatched := m.unmatched
    events := if c.touch.position = w.position then m.events
      else m.events ++ [.touchMove c.touch.id w.position w.strength] }

/-- One winner of the match stage (R50). -/
def matchWinner (radius : Nat) (m : MatchWork) (w : Winner) : MatchWork :=
  match nearestFrom radius w.position 0 none m.candidates with
  | none => { m with unmatched := m.unmatched ++ [w] }
  | some i =>
    match m.candidates[i]? with
    | none => { m with unmatched := m.unmatched ++ [w] }
    | some c => m.take w i c

/-- The match stage, winners in winner-list order (R50, R51). -/
def matchStage (radius : Nat) (winners : List Winner) (touches : List TouchRecord) : MatchWork :=
  winners.foldl (matchWinner radius)
    { candidates := touches.map fun t => { touch := t, matched := false }, unmatched := [], events := [] }

/-- The age stage: what becomes of one record, `none` for removal (R52). -/
def ageRecord (lift : Nat) (c : Candidate) : Option TouchRecord :=
  if c.matched then some c.touch
  else if c.touch.miss + 1 ≤ lift then some { c.touch with miss := c.touch.miss + 1 }
  else none

/-- The TOUCH_UP of a record that the age stage removes (R52). -/
def ageEvent (lift : Nat) (c : Candidate) : Option Event :=
  match ageRecord lift c with
  | some _ => none
  | none => some (.touchUp c.touch.id c.touch.position c.touch.strength)

/-- The id after `id`, with 255 followed by 1 (R54). -/
def idAfter (id : Nat) : Nat :=
  if id = 255 then 1 else id + 1

/-- The first value from `id` on, in the order of `idAfter`, that no record holds. `fuel` bounds the search; it passes over
at most as many values as there are records (R54). -/
def freeIdFrom (fuel id : Nat) (touches : List TouchRecord) : Nat :=
  match fuel with
  | 0 => id
  | fuel + 1 => if touches.any (fun t => t.id == id) then freeIdFrom fuel (idAfter id) touches else id

/-- One unmatched winner of the create stage, with the records queued so far (R53, R54). -/
def createTouch (acc : Tracker × List Event) (w : Winner) : Tracker × List Event :=
  let t := acc.1
  if t.touches.length < 4 then
    let touches := t.touches ++ [{ id := t.nextId, position := w.position, strength := w.strength, miss := 0 }]
    ({ touches := touches, nextId := freeIdFrom touches.length (idAfter t.nextId) touches },
      acc.2 ++ [.touchDown t.nextId w.position w.strength])
  else acc

/-- The tracking step: match, age and create (R48), and the records it queues in the order of the stages (R55). -/
def trackingStep (radius lift : Nat) (winners : List Winner) (t : Tracker) : Tracker × List Event :=
  let m := matchStage radius winners t.touches
  let aged : Tracker := { t with touches := m.candidates.filterMap (ageRecord lift) }
  m.unmatched.foldl createTouch (aged, m.events ++ m.candidates.filterMap (ageEvent lift))

/-- Apply the tracking step: the list, its records in the queue, and the indicator's demand (R48, R163). -/
def State.track (winners : List Winner) (s : State) : State :=
  let r := trackingStep (cfgCapture s.store.record) (cfgLiftDelay s.store.record) winners s.tracker
  ({ s with tracker := r.1 }.recordAll r.2).deriveDemand

/-! ## Clear and adoption -/

/-- A clear: TOUCH_LOST for every record, oldest first, then NET_CLEAR, an empty list and next id 1 (R58). -/
def State.clearTouches (cause : ClearCause) (s : State) : State :=
  let lost := s.tracker.touches.map fun t => Event.touchLost t.id t.position t.strength
  ({ s with tracker := Tracker.reset }.recordAll (lost ++ [Event.netClear cause])).deriveDemand

/-- Adoption of the surface's next id (R62). -/
def State.adopt (id : Nat) (s : State) : State :=
  { s with tracker := { s.tracker with nextId := id } }.deriveDemand

end Sys2Proof.Machine
end

