-- ==== Sys2Proof/Machine/Agreement.lean ====
section
/-! DEFINITION. The agreement unit: the digest passes (R71 to R73), the outcomes (R75 to R81), breaks (R83, R84) and address
conflict (R85). -/

namespace Sys2Proof.Machine

/-- Discard the working items (R73, R83): latched digest, part, pass values and difference mark. -/
def Agreement.discardItems (a : Agreement) : Agreement :=
  { a with latched := none, part := none, passA := [], passB := [], difference := false }

/-- A change of membership: the listen-round counter returns to 0 and the forcing flag is cleared (R70, R78, R80, R84,
R85). -/
def Agreement.become (m : Membership) (a : Agreement) : Agreement :=
  { a with membership := m, listenRounds := 0, forcing := false }

/-- Change membership and queue the MEMBERSHIP record (R86). -/
def State.setMembership (m : Membership) (s : State) : State :=
  { s with agreement := s.agreement.become m }.record (.membership m)

/-- The part in the passes that membership and forcing flag give (R71). -/
def Agreement.decidePart (a : Agreement) : DigestPart :=
  match a.membership with
  | .member => .member
  | .listen => if a.forcing then .forcing else .listener
  | .config | .conflict => .silent

/-- The first DIGEST_A fall: latch the digest and decide the part (R71). -/
def Agreement.latchDigest (digest : BitVec 16) (a : Agreement) : Agreement :=
  { a with latched := some digest, part := some a.decidePart }

/-- The bit of the latched digest with bit index `i`, weight 2 to the power 15 - i (R71). -/
def Agreement.digestBit (i : Nat) (a : Agreement) : Bool :=
  (a.latched.getD 0#16).getMsbD i

/-- Does the station drive the digest slot with bit index `i` dominant? `complement` in DIGEST_B (R71). -/
def Agreement.drives (complement : Bool) (i : Nat) (a : Agreement) : Bool :=
  match a.part with
  | some .member => a.digestBit i != complement
  | some .forcing => true
  | some .listener | some .silent | none => false

/-- Record a DIGEST_A or DIGEST_B slot: the pass value takes the bit, and a driver compares it with what it drove
(R72). -/
def Agreement.recordSlot (passB dat drove : Bool) (a : Agreement) : Agreement :=
  { a with
    passA := if passB then a.passA else a.passA ++ [dat]
    passB := if passB then a.passB ++ [dat] else a.passB
    difference := a.difference || (a.isDriver && dat != drove) }

/-- A pass value as 16 bits (R72). -/
def passValue (bits : List Bool) : BitVec 16 :=
  BitVec.ofNat 16 (natOfBits bits)

/-- The reading agrees: pass B is the complement of pass A (R77). -/
def Agreement.agrees (a : Agreement) : Bool :=
  passValue a.passB == ~~~ passValue a.passA

/-- The high byte of the pass A value: the members' next id (R78). -/
def Agreement.readId (a : Agreement) : Nat :=
  (passValue a.passA).toNat / 256

/-- The pass A value can be adopted: low byte 0, high byte not 0 (R78). -/
def Agreement.adoptable (a : Agreement) : Bool :=
  (passValue a.passA).toNat % 256 == 0 && a.readId != 0

/-- An agreeing round that cannot be adopted: the counter advances outside a fault round while below 64, and the forcing
flag is set when the advance reaches 64 (R79). -/
def Agreement.waitRound (faultMark : Bool) (a : Agreement) : Agreement :=
  if !faultMark && decide (a.listenRounds < 64) then
    { a with listenRounds := a.listenRounds + 1, forcing := a.forcing || a.listenRounds + 1 == 64 }
  else a

/-- The member's outcome (R75). R89: a clear round leaves the counter 0 and the forcing flag clear (log 18). -/
def State.memberOutcome (s : State) : State :=
  if s.agreement.difference then
    let t := s.clearTouches .mismatch
    { t with agreement := { t.agreement with listenRounds := 0, forcing := false } }
  else s

/-- The listener's outcome (R77 to R80). -/
def State.listenerOutcome (s : State) : State :=
  if s.agreement.agrees then
    if s.agreement.adoptable then (s.adopt s.agreement.readId).setMembership .member
    else { s with agreement := s.agreement.waitRound s.contest.faultMark }
  else (s.clearTouches .formation).setMembership .member

/-- The outcome of a round at its 16th DIGEST_B slot (R75 to R77). -/
def State.takeOutcome (s : State) : State :=
  match s.agreement.part with
  | some .member => s.memberOutcome
  | some .forcing | some .listener => s.listenerOutcome
  | some .silent | none => s

/-- The end of a break reaches the agreement unit (R84, R89, log 18). -/
def State.breakEndMembership (s : State) : State :=
  let t := { s with agreement := { s.agreement.discardItems with listenRounds := 0, forcing := false } }
  match t.agreement.membership with
  | .listen => (t.clearTouches .brk).setMembership .member
  | .config | .member | .conflict => t

/-- Entry into CONFLICT: the clear, the membership, and the pending break flag (R35, R85, R19). -/
def State.enterConflict (s : State) : State :=
  let t := (s.clearTouches .conflict).setMembership .conflict
  { t with bus := { t.bus with pendingBreak := false } }

end Sys2Proof.Machine
end

