-- ==== Sys2Proof/Machine/Contest.lean ====
section
/-! DEFINITION. The contest unit: bids (R25 to R30), arbitration (R31), the winner checks (R32 to R36), suppression (R37)
and the hand-off (R38, R39). -/

namespace Sys2Proof.Machine

/-- The bid value: 256 × strength + position (R25). -/
def bidValue (strength position : Nat) : Nat :=
  256 * strength + position

def Winner.value (w : Winner) : Nat :=
  bidValue w.strength w.position

/-- The winner's address (R32). -/
def Winner.address (w : Winner) : Nat :=
  w.position / 8

/-- A candidate: eligible, and marked neither won nor suppressed (R27, R129). Only configured channels are ever
eligible. -/
def State.isCandidate (s : State) (n : Fin 8) : Bool :=
  s.processor.channels[n].eligible && !s.contest.won[n] && !s.contest.suppressed[n]

/-- The candidate of greatest strength, the higher channel at equal strength (R27). -/
def State.strongestCandidate (s : State) : Option (Fin 8) :=
  allChannels.foldl (fun best n =>
    if s.isCandidate n then
      match best with
      | none => some n
      | some m => if s.processor.channels[m].strength ≤ s.processor.channels[n].strength then some n else some m
    else best) none

/-- The bid for a channel of this station (R25). -/
def State.bidFor (s : State) (n : Fin 8) : Bid where
  channel := n
  value := bidValue s.processor.channels[n].strength (positionOf s.store.record n)

/-- The bid a station makes at a claim slot's fall: a member's strongest candidate (R27). -/
def State.bidNow (s : State) : Option Bid :=
  if s.agreement.membership = .member then s.strongestCandidate.map s.bidFor else none

/-- A claim slot opens: the last contest's items are cleared and the bid is latched (R26, R27). -/
def State.openContest (s : State) : State :=
  { s with contest :=
    { s.contest with bidding := s.bidNow.isSome, bid := s.bidNow, lost := false, assembly := [] } }

/-- The bit of the current bid with bit index `i`, weight 2 to the power 19 - i (R25, R30). -/
def Contest.bidBit (i : Nat) (c : Contest) : Bool :=
  match c.bid with
  | some b => b.value.testBit (19 - i)
  | none => false

/-- A bid slot completes: the assembly takes the bit, and a bidder that reads another level than it drove has lost
(R31). -/
def Contest.readBack (dat drove : Bool) (c : Contest) : Contest :=
  { c with assembly := c.assembly ++ [dat], lost := c.lost || (c.bidding && dat != drove) }

/-- The winner that an assembly of 20 bits spells (R32). -/
def winnerOf (assembly : List Bool) : Winner :=
  let v := natOfBits assembly % 2 ^ 20
  { strength := v / 256, position := v % 256 }

/-- The phantom check (R33): the winner's address read recessive, or the winner does not follow those before it. -/
def State.isPhantom (w : Winner) (s : State) : Bool :=
  s.peers.presence[w.address]? == some (some false) ||
    s.contest.winners.any fun x => decide (x.value ≤ w.value) || x.position == w.position

/-- The conflict check (R34): the winner carries the station's own address and is not its own bid. -/
def State.findsConflict (w : Winner) (s : State) : Bool :=
  (s.agreement.membership == .listen || s.agreement.membership == .member) &&
    w.address == cfgAddress s.store.record && !s.contest.inContest

/-- Suppression around position `p` (R37): the station's own configured channels within its suppression radius. -/
def suppressAround (r : ConfigRecord) (p : Nat) (marks : Vector Bool 8) : Vector Bool 8 :=
  Vector.ofFn fun n =>
    marks[n] || (isConfigured r n && decide (distance (positionOf r n) p ≤ cfgSuppression r))

/-- The won mark of the channel of the winning bid (R36). -/
def Contest.markWon (c : Contest) : Vector Bool 8 :=
  match c.bid with
  | some b => if c.inContest then c.won.set b.channel true else c.won
  | none => c.won

/-- Acceptance (R36) with its suppression (R37). -/
def Contest.accept (r : ConfigRecord) (w : Winner) (c : Contest) : Contest :=
  { c with
    winners := c.winners ++ [w]
    won := c.markWon
    suppressed := suppressAround r w.position c.suppressed }

/-- The contest phase ends: the tracking step in a member with a clear fault mark, and nothing otherwise; the digest passes
follow (R39, R48, R6). -/
def State.endContests (s : State) : State :=
  let t := if s.agreement.membership = .member ∧ s.contest.faultMark = false then s.track s.contest.winners else s
  { t with bus := { t.bus with phase := .digestA, bitIndex := 0 } }

/-- The contest phase goes on with another claim slot below a contest count of 4, and ends at 4 (R5, R38). -/
def State.nextContest (s : State) : State :=
  if s.bus.contestCount < 4 then { s with bus := { s.bus with phase := .claim, bitIndex := 0 } }
  else s.endContests

/-- The winner checks at the completion of the 20th bid slot (R32 to R38). -/
def State.checkWinner (s : State) : State :=
  let w := winnerOf s.contest.assembly
  if s.isPhantom w then
    ({ s with contest := { s.contest with faultMark := true } }.record (.busFault .phantom)).endContests
  else if s.findsConflict w then
    { s with contest := { s.contest with winners := s.contest.winners ++ [w] } }.enterConflict.nextContest
  else { s with contest := s.contest.accept s.store.record w }.nextContest

/-- The claim slot's result (R29); the slot counts into the contest count (R5). -/
def State.claimResult (dat : Bool) (s : State) : State :=
  let t := { s with bus := { s.bus with contestCount := s.bus.contestCount + 1 } }
  if dat then { t with bus := { t.bus with phase := .bid, bitIndex := 0 } }
  else { t with contest := { t.contest with bidding := false, bid := none } }.endContests

/-- A bid slot's result (R31), and after the 20th the winner checks (R32). -/
def State.bidResult (dat : Bool) (s : State) : State :=
  let t := { s with contest := s.contest.readBack dat s.bus.datDrive }
  if s.bus.bitIndex < 19 then { t with bus := { t.bus with bitIndex := t.bus.bitIndex + 1 } }
  else t.checkWinner

end Sys2Proof.Machine
end

