-- ==== Sys2Proof/Machine/Peers.lean ====
section
/-! DEFINITION. Presence and the peer table: the drive of the own slot (R90), the presence map (R91) and the entries
(R93 to R97). -/

namespace Sys2Proof.Machine

/-- The drive of the presence slot of address `a`: the station's own slot, in LISTEN or MEMBER (R90). -/
def State.drivesPresence (a : Nat) (s : State) : Bool :=
  a == cfgAddress s.store.record && (s.agreement.membership == .listen || s.agreement.membership == .member)

/-- The update of an entry from its slot's value (R94). -/
def PeerEntry.update (stamp : Stamp) (dat : Bool) (p : PeerEntry) : PeerEntry :=
  if dat then { state := .present, miss := 0, lastPresent := stamp }
  else
    match p.state with
    | .absent => { p with miss := 0 }
    | .present => { p with state := .missing, miss := 1 }
    | .missing => if p.miss < 2 then { p with miss := p.miss + 1 } else { p with state := .absent, miss := 0 }

/-- The record that the update queues (R94, R95). -/
def PeerEntry.updateEvent (a : Nat) (dat : Bool) (p : PeerEntry) : Option Event :=
  match p.state with
  | .absent => if dat then some (.peerJoin a) else none
  | .present => none
  | .missing => if !dat && decide (2 ≤ p.miss) then some (.peerLeave a) else none

/-- Clear the presence map (R91). -/
def PeerTable.clearMap (t : PeerTable) : PeerTable :=
  { t with presence := Vector.replicate 32 none }

/-- Presence slot of address `a` completes: the map takes the value (R91) and the entry is updated (R94, R95). -/
def State.presenceResult (a : Nat) (dat : Bool) (s : State) : State :=
  match s.peers.entries[a]? with
  | none => s
  | some p =>
    { s with peers :=
      { entries := s.peers.entries.setIfInBounds a (p.update s.bus.stamp dat)
        presence := s.peers.presence.setIfInBounds a (some dat) } }.recordAll (p.updateEvent a dat).toList

end Sys2Proof.Machine
end

