-- ==== Sys2Proof/Machine/BusEngine.lean ====
section
/-! DEFINITION. The bus engine: slots (R3 to R7), rounds (R8, R9), windows (R10, R11), abandonment (R14), breaks (R16 to R20)
and settling (R22), over the other blocks' operations. -/

namespace Sys2Proof.Machine

/-! ## Entering phases -/

/-- The line goes low: the low is measured from this fall (R1). -/
def Bus.lineFalls (b : Bus) : Bus :=
  { b with lineLow := true, lowTicks := 0, driveBreakSeen := false }

/-- The line goes high: the stuck report is armed again (R18). -/
def Bus.lineRises (b : Bus) : Bus :=
  { b with lineLow := false, stuckReported := false, driveBreakSeen := false }

/-- Stop every timer of the bus engine, which releases SYNC (R21, R22, R24). -/
def Bus.stopTimers (b : Bus) : Bus :=
  { b with
    roundTimer := none
    holdTimer := none
    gapTimer := none
    slotTimer := none
    strobeTimer := none
    settleTimer := none
    breakTimer := none }

/-- Slot index, contest count and bit index return to 0 (R7, R14, R24). -/
def Bus.clearIndices (b : Bus) : Bus :=
  { b with slotIndex := 0, contestCount := 0, bitIndex := 0 }

/-- Begin the commanded break: the pending flag and the round timer end, and the station pulls SYNC low for 12 ms. Its pull
makes the line fall where the line is high (R19, R20, log 6). -/
def Bus.beginBreakDrive (b : Bus) : Bus :=
  let c := if b.lineLow then b else b.lineFalls
  { c with
    phase := .breakDrive
    pendingBreak := false
    roundTimer := none
    breakTimer := some breakDriveTicks
    driveBreakSeen := false }

/-- Enter IDLE: the indices are cleared, SYNC is released (R24, log 19) and the round timer starts; a pending break begins at
once (R7, R8, R13, R22). -/
def Bus.enterIdle (r : ConfigRecord) (b : Bus) : Bus :=
  let c := { b.clearIndices with
    phase := .idle
    roundTimer := some (roundTicks r)
    slotTimer := none
    strobeTimer := none
    settleTimer := none }
  if c.pendingBreak then c.beginBreakDrive else c

/-- Enter SETTLING: every timer stopped; the wait for the idle limit runs while SYNC is high (R22, R24). -/
def Bus.enterSettling (b : Bus) : Bus :=
  let c := b.clearIndices.stopTimers
  { c with
    phase := .settling
    datDrive := false
    settleTimer := if b.lineLow then none else some idleLimit }

/-! ## Windows -/

/-- A new round begins for the contest unit, the peer table and the agreement unit (R9, R26, R73, R91). -/
def State.newRound (s : State) : State :=
  { s with
    contest := Contest.reset
    peers := s.peers.clearMap
    agreement := s.agreement.discardItems }

/-- A fall in IDLE opens a window (R9): the hold of W begins and the front end begins a count. -/
def State.openWindow (s : State) : State :=
  let t := s.newRound
  { t with
    bus := { t.bus with
      phase := .window
      roundTimer := none
      holdTimer := some (windowTicks s.store.record)
      stamp := t.bus.stamp + 1 }
    frontEnd := t.frontEnd.beginCount }

/-- The strobe limit in a slot phase: the round is abandoned and the low becomes a window from its observed fall (R14). The
front end keeps the count it began at that fall (R106). -/
def State.abandonRound (s : State) : State :=
  let t := (s.record (.busFault .roundAbandoned)).newRound
  let b := (t.bus.lowAtLeast strobeLimit).clearIndices
  { t with bus :=
    { b with
      phase := .window
      slotTimer := none
      strobeTimer := none
      holdTimer := some (windowTicks s.store.record - b.lowTicks)
      stamp := b.stamp + 1
      datDrive := false } }

/-- The rise closes the window (R10): T goes to the front end, which judges the window, reports an anomaly and hands the
results over (R108 to R112). An operation still in flight ends first (R113, log 8). -/
def State.closeWindow (s : State) : State :=
  let t := s.completeOperation
  let len := t.bus.lowTicks
  let f := { t.frontEnd.endCount with lastLength := len }
  let u : State := { t with
    frontEnd := f
    bus := { t.bus with phase := .gap, holdTimer := none, gapTimer := some gapTicks } }
  let v := if windowAccepted (windowTicks s.store.record) len then u else u.reportAnomaly
  v.beginOperation (f.results s.store.record len)

/-! ## Slots -/

/-- The owner's election for the slot that opens (R2, R27, R30, R71, R90). -/
def State.electDrive (s : State) : State :=
  let t :=
    match s.bus.phase with
    | .claim => s.openContest
    | .digestA =>
      if s.bus.bitIndex = 0 then { s with agreement := s.agreement.latchDigest s.tracker.digest } else s
    | _ => s
  let drive :=
    match s.bus.phase with
    | .presence => s.drivesPresence (s.bus.slotIndex - 1)
    | .claim => t.contest.bidding
    | .bid => t.contest.inContest && t.contest.bidBit t.bus.bitIndex
    | .digestA => t.agreement.drives false t.bus.bitIndex
    | .digestB => t.agreement.drives true t.bus.bitIndex
    | _ => false
  { t with bus := { t.bus with datDrive := drive } }

/-- A fall opens a slot: the slot-interval or gap timer is cancelled, the station strobes unless its earlier strobe is still
held, the front end begins a provisional count, and the owner elects its drive (R3, R12, R104, R2). -/
def State.openSlot (s : State) : State :=
  State.electDrive { s with
    bus := { s.bus with
      gapTimer := none
      slotTimer := none
      strobeTimer := if s.bus.strobeTimer.isSome then s.bus.strobeTimer else some strobeTicks }
    frontEnd := s.frontEnd.beginCount }

/-- The quiet slot's result (R13): presence follows, or the round ends early. -/
def State.quietResult (dat : Bool) (s : State) : State :=
  if dat then
    let t := s.record (.busFault .datStuck)
    { t with bus := t.bus.enterIdle t.store.record }
  else { s with bus := { s.bus with phase := .presence } }

/-- After the presence slot of address 31, slot index 32, the contest phase opens with a claim slot (R5). -/
def State.presenceSlotResult (dat : Bool) (s : State) : State :=
  let t := s.presenceResult (s.bus.slotIndex - 1) dat
  if s.bus.slotIndex < 32 then t else { t with bus := { t.bus with phase := .claim } }

/-- A DIGEST_A slot's result (R72); DIGEST_B follows the sixteenth (R5). -/
def State.digestAResult (dat : Bool) (s : State) : State :=
  let t := { s with agreement := s.agreement.recordSlot false dat s.bus.datDrive }
  if s.bus.bitIndex < 15 then { t with bus := { t.bus with bitIndex := t.bus.bitIndex + 1 } }
  else { t with bus := { t.bus with phase := .digestB, bitIndex := 0 } }

/-- A DIGEST_B slot's result (R72); at the sixteenth the outcome is taken and the round ends (R7, R75, R77). -/
def State.digestBResult (dat : Bool) (s : State) : State :=
  let t := { s with agreement := s.agreement.recordSlot true dat s.bus.datDrive }
  if s.bus.bitIndex < 15 then { t with bus := { t.bus with bitIndex := t.bus.bitIndex + 1 } }
  else
    let u := t.takeOutcome
    { u with bus := u.bus.enterIdle u.store.record }

/-- The slot's value goes to its owner, and the phase follows the sequence of the round (R4, R5). -/
def State.slotResult (dat : Bool) (s : State) : State :=
  match s.bus.phase with
  | .quiet => s.quietResult dat
  | .presence => s.presenceSlotResult dat
  | .claim => s.claimResult dat
  | .bid => s.bidResult dat
  | .digestA => s.digestAResult dat
  | .digestB => s.digestBResult dat
  | .off | .settling | .idle | .window | .gap | .brk | .breakDrive => s

/-- A slot completes (R4): the count is discarded (R106), the slot-interval timer starts (R3), the value is handed over, the
slot index advances unless the round has ended, and the drive is removed (R2). -/
def State.completeSlot (dat : Bool) (s : State) : State :=
  let t := State.slotResult dat { s with
    frontEnd := s.frontEnd.endCount
    bus := { s.bus with slotTimer := some slotTicks } }
  { t with bus :=
    { t.bus with
      slotIndex := if t.bus.phase.isSlot then t.bus.slotIndex + 1 else t.bus.slotIndex
      datDrive := false } }

/-! ## Breaks and long lows -/

/-- A break is detected (R16, R42, R83, R107): everything of the round in progress is dropped, a member clears, and the
station enters BREAK unless it drives the break itself. -/
def State.detectBreak (s : State) : State :=
  let t : State := { s with
    contest := Contest.reset
    agreement := s.agreement.discardItems
    frontEnd := s.frontEnd.endCount }
  let u := if t.agreement.membership = .member then t.clearTouches .brk else t
  let b := (u.bus.lowAtLeast breakLimit).clearIndices
  { u with bus :=
    { b with
      phase := if b.phase = .breakDrive then .breakDrive else .brk
      driveBreakSeen := decide (b.phase = .breakDrive)
      roundTimer := none
      holdTimer := none
      gapTimer := none
      slotTimer := none
      strobeTimer := none
      datDrive := false } }

/-- A break ends: SETTLING, and membership (R17, R84). -/
def State.endBreak (s : State) : State :=
  { s with bus := s.bus.enterSettling }.breakEndMembership

/-- The stuck report of a continuous low (R18). -/
def State.reportStuck (s : State) : State :=
  { s with bus := { s.bus with stuckReported := true } }.record (.busFault .syncStuck)

/-- The long-low rule applies: a slot is open and the low has reached the strobe limit (R14). -/
def State.longLowDue (s : State) : Bool :=
  s.bus.lineLow && s.bus.phase.isSlot && decide (strobeLimit ≤ s.bus.lowTicks)

/-- The break rule applies (R16). -/
def State.breakDue (s : State) : Bool :=
  s.bus.lineLow && s.bus.breakApplies && decide (breakLimit ≤ s.bus.lowTicks)

/-- The stuck rule applies (R18). -/
def State.stuckDue (s : State) : Bool :=
  s.bus.lineLow && decide (s.bus.phase ≠ .off) && !s.bus.stuckReported && decide (stuckLimit ≤ s.bus.lowTicks)

/-- Take the limits that the present low has reached and that have not been taken, in the order of time (log 5). -/
def State.takeLowLimits (s : State) : State :=
  let t := if s.longLowDue then s.abandonRound else s
  let u := if t.breakDue then t.detectBreak else t
  if u.stuckDue then u.reportStuck else u

/-! ## The line -/

/-- A fall of the line reaches the bus engine (R1, R9, R12, R3, R22): `s` is the state before it, with the line high. -/
def State.fall (s : State) : State :=
  let t : State := { s with bus := s.bus.lineFalls }
  match t.bus.phase with
  | .idle => t.openWindow
  | .gap => State.openSlot { t with bus := { t.bus with phase := .quiet, slotIndex := 0 } }
  | .quiet | .presence | .claim | .bid | .digestA | .digestB => t.openSlot
  | .settling => { t with bus := { t.bus with settleTimer := none } }
  | .off | .window | .brk | .breakDrive => t

/-- The station pulls SYNC low or another does: a fall where the line is high, nothing where it is low already (R1). -/
def State.pull (s : State) : State :=
  if s.bus.lineLow then s else s.fall

/-- The effect of a rise by phase, the line being high again (R1, R4, R10, R17, R22). -/
def State.riseInPhase (dat : Bool) (s : State) : State :=
  match s.bus.phase with
  | .window => s.closeWindow
  | .quiet | .presence | .claim | .bid | .digestA | .digestB => s.completeSlot dat
  | .brk => s.endBreak
  | .settling => { s with bus := { s.bus with settleTimer := some idleLimit } }
  | .off | .idle | .gap | .breakDrive => s

/-- A rise of the line that ends a low of at least `low` ticks, with `dat` sampled on DAT. The low's limits come first
(log 5). `low` is taken as given: where SYNC was low when START was taken, the sender counts it from START (R18, log 5). -/
def State.rise (low : Nat) (dat : Bool) (s : State) : State :=
  let t := State.takeLowLimits { s with bus := s.bus.lowAtLeast low }
  State.riseInPhase dat { t with bus := t.bus.lineRises }

/-- The commanded break ends at 12 ms (R20): the station releases SYNC. The low then present counts as one of 12 ms (log 4),
also where it began anew during the drive, so a break not yet detected in it is detected at once (log 16). -/
def State.releaseBreak (otherHolds : Bool) (s : State) : State :=
  let t := State.takeLowLimits { s with bus := s.bus.lowAtLeast breakDriveTicks }
  let u : State := { t with bus := { t.bus with breakTimer := none } }
  if otherHolds && u.bus.lineLow then
    { u with bus := { u.bus with phase := .brk, strobeTimer := none, driveBreakSeen := false } }
  else State.endBreak { u with bus := u.bus.lineRises }

end Sys2Proof.Machine
end

