-- ==== Sys2Proof/Machine/ConfigStore.lean ====
section
/-! DEFINITION. The configuration store: validation (R138, R139) and the effects of a successful START (R140). -/

namespace Sys2Proof.Machine

/-- The pins that a descriptor names: its drive pin, and its plate pin where its role is PAIR (R139). -/
def namedPins (d : Byte) : List Nat :=
  if descriptorRole d = 1 then [descriptorDrive d, descriptorPlate d] else [descriptorDrive d]

/-- The pins named by the configured descriptors before descriptor `n` (R139). -/
def pinsBefore (r : ConfigRecord) (n : Fin 8) : List Nat :=
  (allChannels.filter fun m => decide (m < n) && isConfigured r m).flatMap fun m => namedPins (cfgDescriptor r m)

/-- Descriptor `n` fails (R139). Its pins are three bits each, so they cannot lie outside 0..7 (R171). -/
def descriptorFails (r : ConfigRecord) (n : Fin 8) : Bool :=
  let d := cfgDescriptor r n
  isConfigured r n &&
    (decide (1 < descriptorRole d) || (namedPins d).any (fun p => (pinsBefore r n).contains p) ||
      (descriptorRole d == 1 && descriptorPlate d == descriptorDrive d))

/-- The checks in the order of field number, each with its number; `true` where the field fails (R138). -/
def fieldChecks (r : ConfigRecord) : List (Nat × Bool) :=
  [(1, decide (31 < cfgAddress r)),
   (2, cfgChannelCount r == 0 || decide (8 < cfgChannelCount r))]
  ++ allChannels.map (fun n => (3 + n.val, descriptorFails r n)) ++
  [(11, decide (cfgWindow r < 10) || decide (200 < cfgWindow r)),
   (12, decide (cfgPeriod r < 4) || decide (100 < cfgPeriod r)
      || decide (1000 * cfgPeriod r < 10 * cfgWindow r + 2000)),
   (13, decide (cfgTouch r < 8) || decide (4095 < cfgTouch r)),
   (14, decide (cfgRelease r < 4) || decide (cfgTouch r ≤ cfgRelease r)),
   (15, cfgDepth r == 0 || decide (4 < cfgDepth r)),
   (16, (decide (1 ≤ cfgHoldLimit r) && decide (cfgHoldLimit r ≤ 15)) || decide (1023 < cfgHoldLimit r)),
   (17, decide (3 < cfgSuppression r)),
   (18, decide (15 < cfgCapture r)),
   (19, decide (7 < cfgLiftDelay r)),
   (20, decide (5 < cfgPumpSelect r)),
   (21, decide (3 < cfgDuty r)),
   (22, cfgClearPulse r == 0 || decide (8 < cfgClearPulse r)),
   (23, decide (25 < cfgMinPump r)),
   (24, (lampModeOf (cfgLampCode r)).isNone)]

/-- The number of the first field that fails (R138). -/
def firstFailingField (r : ConfigRecord) : Option Nat :=
  ((fieldChecks r).find? Prod.snd).map Prod.fst

/-- The bus engine at a successful START (R22, R24): SETTLING with stamp 0. A SYNC line that is low already is measured from
START (R18). -/
def Bus.start (b : Bus) : Bus :=
  { b.enterSettling with
    stamp := 0#16
    pendingBreak := false
    lowTicks := 0
    driveBreakSeen := false
    stuckReported := false }

/-- The effects of a successful START on every block (R140). The agreement unit keeps no working item (R89). -/
def State.startEffects (s : State) : State :=
  let t : State := { s with
    store := { s.store with locked := true }
    bus := s.bus.start
    processor := s.processor.start s.store.record
    peers := PeerTable.reset
    agreement := s.agreement.discardItems }
  (t.setMembership .listen).setMode ((lampModeOf (cfgLampCode s.store.record)).getD .off)

end Sys2Proof.Machine
end

