-- ==== Sys2Proof/Machine/Port.lean ====
section
/-! DEFINITION. The local port: what each command does when it is taken (R19, R135, R137, R146 to R151, R157), and the bits of
the transaction (R143, R144, R158). -/

namespace Sys2Proof.Machine

/-- A command refused in CONFIG is answered REFUSED_STATE, whatever its arguments hold (R145). -/
def State.outsideConfig (take : State → State) (s : State) : State :=
  if s.agreement.membership = .config then s.answer .refusedState [] else take s

/-- NOP (R151). -/
def State.takeNop (s : State) : State :=
  s.answer .done []

/-- GET_STATUS (R146). -/
def State.takeGetStatus (s : State) : State :=
  s.answer .done (statusBytes s)

/-- READ_EVENT (R157): EMPTY, or DONE with the head record latched. -/
def State.takeReadEvent (s : State) : State :=
  match s.queue.records with
  | [] => s.answer .empty []
  | r :: _ => { s with queue := { s.queue with latch := some .intact } }.answer .done r.bytes

/-- PEEK_TOUCHES (R147). -/
def State.takePeekTouches (s : State) : State :=
  s.answer .done (touchBytes s.tracker)

/-- READ_CHANNEL (R148): the whole argument byte is the channel number, so 8 and above is out of range (R173). -/
def State.takeReadChannel (n : Byte) (s : State) : State :=
  s.outsideConfig fun s =>
    if n.toNat < cfgChannelCount s.store.record then
      match s.processor.channels[n.toNat]? with
      | some c => s.answer .done c.bytes
      | none => s.answer .badArgument []
    else s.answer .badArgument []

/-- READ_PEERS (R99, R151). -/
def State.takeReadPeers (s : State) : State :=
  s.answer .done (peerBytes s.peers)

/-- WRITE_CONFIG (R135): in CONFIG the whole record is replaced. -/
def State.takeWriteConfig (r : ConfigRecord) (s : State) : State :=
  if s.agreement.membership = .config then { s with store := { s.store with record := r } }.answer .done []
  else s.answer .refusedState []

/-- START (R137). -/
def State.takeStart (s : State) : State :=
  if s.agreement.membership = .config then
    match firstFailingField s.store.record with
    | some n => s.answer .badArgument [byteOf n]
    | none => (s.answer .done []).startEffects
  else s.answer .refusedState []

/-- RECALIBRATE (R149). -/
def State.takeRecalibrate (mask : Byte) (s : State) : State :=
  s.outsideConfig fun s =>
    if maskBeyondCount s.store.record mask then s.answer .badArgument []
    else { s with processor := s.processor.recalibrate mask }.answer .done []

/-- BREAK_NETWORK by membership and phase (R19). -/
def State.takeBreakNetwork (s : State) : State :=
  match s.agreement.membership with
  | .config | .conflict => s.answer .refusedState []
  | .listen | .member =>
    if s.bus.pendingBreak || s.bus.phase == .breakDrive then s.answer .busy []
    else if s.bus.phase = .idle then { s with bus := s.bus.beginBreakDrive }.answer .done []
    else { s with bus := { s.bus with pendingBreak := true } }.answer .done []

/-- SET_LAMP (R150): the mode already in force changes nothing. -/
def State.takeSetLamp (mode : Byte) (s : State) : State :=
  s.outsideConfig fun s =>
    match lampModeOf mode.toNat with
    | none => s.answer .badArgument []
    | some m => if m = s.indicator.mode then s.answer .done [] else (s.answer .done []).setMode m

/-- A byte that names no command (R145). -/
def State.takeUnknown (s : State) : State :=
  s.answer .badArgument []

/-- What the port does with the command that its incoming bytes spell (R144). -/
def State.takeCommand (c : PortCommand) (s : State) : State :=
  match c with
  | .nop => s.takeNop
  | .getStatus => s.takeGetStatus
  | .readEvent => s.takeReadEvent
  | .peekTouches => s.takePeekTouches
  | .readChannel n => s.takeReadChannel n
  | .readPeers => s.takeReadPeers
  | .writeConfig r => s.takeWriteConfig r
  | .start => s.takeStart
  | .recalibrate m => s.takeRecalibrate m
  | .breakNetwork => s.takeBreakNetwork
  | .setLamp m => s.takeSetLamp m
  | .unknown _ => s.takeUnknown

/-! ## Bits -/

/-- A byte has come in: the command is taken once its last incoming byte is there (R144). -/
def State.byteIn (b : Byte) (s : State) : State :=
  let bytes := s.port.rxBytes ++ [b]
  match decodeCommand bytes with
  | some c => s.takeCommand c
  | none => { s with port := { s.port with rxBits := [], rxBytes := bytes } }

/-- A bit comes in while RECEIVING; eight of them are a byte (R143). -/
def State.bitIn (sdi : Bool) (s : State) : State :=
  let bits := s.port.rxBits ++ [sdi]
  if bits.length < 8 then { s with port := { s.port with rxBits := bits } }
  else s.byteIn (byteOfBits bits)

/-- A bit goes out while SENDING (R143). -/
def State.bitOut (s : State) : State :=
  { s with port := { s.port with sent := s.port.sent + 1 } }

/-- All 8 result bytes of a READ_EVENT have been shifted out, after its status byte (R158). -/
def Port.recordShifted (p : Port) : Bool :=
  decide (72 ≤ p.sent)

/-- What the end of a transaction does to the queue: a READ_EVENT whose record was fully shifted out and still stands
unchanged at the head removes it (R158, R159); whatever was latched is forgotten. -/
def State.endRead (s : State) : EventQueue :=
  let q := { s.queue with latch := none }
  if s.queue.latch = some .intact ∧ s.port.recordShifted = true then q.removeHead s.bus.stamp else q

/-- The transaction is over: the port returns to IDLE and keeps nothing of it (R144). -/
def Port.idle (p : Port) : Port :=
  { p with state := .idle, rxBits := [], rxBytes := [], tx := [], sent := 0 }

end Sys2Proof.Machine
end

