-- ==== Sys2Proof/Machine/Clock.lean ====
section
/-! DEFINITION. The passing of time: one reference tick of every count, the commands of the limits and timers that are up, and
the idle step (log 1, log 2). -/

namespace Sys2Proof.Machine

/-- One tick of the bus engine. The low is measured outside OFF (R21). -/
def Bus.tick (b : Bus) : Bus :=
  { b with
    roundTimer := b.roundTimer.tick
    holdTimer := b.holdTimer.tick
    gapTimer := b.gapTimer.tick
    slotTimer := b.slotTimer.tick
    strobeTimer := b.strobeTimer.tick
    settleTimer := b.settleTimer.tick
    breakTimer := b.breakTimer.tick
    lowTicks := if b.lineLow && decide (b.phase ≠ .off) then b.lowTicks + 1 else b.lowTicks }

/-- One tick of the indicator: the pump cycle position moves in PUMPING (R162, R165). -/
def Indicator.tick (i : Indicator) : Indicator :=
  { i with
    clearTimer := i.clearTimer.tick
    minPumpTimer := i.minPumpTimer.tick
    pumpPos := if i.phase = .pumping then i.pumpPos + 1 else i.pumpPos }

/-- One reference tick of the station. -/
def State.tick (s : State) : State :=
  { s with
    bus := s.bus.tick
    processor := { s.processor with operationTimer := s.processor.operationTimer.tick }
    indicator := s.indicator.tick }

/-- The commands whose time has come: timers that have run out, and limits of the present low. At the end of a commanded
break the line counts as still held, and its rise is left to come as a command (log 7). -/
def State.due (s : State) : List Instr :=
  (if s.bus.phase = .idle ∧ s.bus.roundTimer.isDue then [.roundTimerExpiry] else [])
  ++ (if s.bus.holdTimer.isDue then [.windowHoldEnd] else [])
  ++ (if s.bus.phase = .gap ∧ s.bus.gapTimer.isDue then [.gapTimerExpiry] else [])
  ++ (if s.bus.phase.isSlot ∧ s.bus.slotTimer.isDue then [.slotIntervalExpiry] else [])
  ++ (if s.bus.strobeTimer.isDue then [.strobeEnd] else [])
  ++ (if s.bus.phase = .settling ∧ s.bus.settleTimer.isDue then [.settlingComplete] else [])
  ++ (if s.bus.phase = .breakDrive ∧ s.bus.breakTimer.isDue then [.commandedBreakEnd true] else [])
  ++ (if s.longLowDue then [.longLow] else [])
  ++ (if s.breakDue then [.breakDetected] else [])
  ++ (if s.stuckDue then [.syncStuck] else [])
  ++ (if s.processor.inFlight.isSome ∧ s.processor.operationTimer.isDue then [.processingOperation] else [])
  ++ (if s.indicator.phase = .preClear ∧ s.indicator.clearTimer.isDue then [.preClearEnd] else [])
  ++ (if s.indicator.phase = .postClear ∧ s.indicator.clearTimer.isDue then [.postClearEnd] else [])
  ++ (if s.indicator.phase = .pumping ∧ s.indicator.minPumpTimer.isDue then [.minimumPumpTimerExpiry] else [])
  ++ (if s.indicator.phase = .pumping ∧ s.indicator.pumpHigh ∧
        pumpHighTicks s.store.record ≤ s.indicator.pumpPos then [.pumpHighTimeEnd] else [])
  ++ (if s.indicator.phase = .pumping ∧ pumpPeriod s.store.record ≤ s.indicator.pumpPos then [.pumpPeriodEnd] else [])

/-- The step on an empty queue: where nothing is due one tick passes; otherwise one due command takes its place in the queue,
a free value choosing among several (log 1, log 2). -/
def State.idleStep (s : State) : State :=
  match s.due with
  | [] => s.tick
  | [c] => { s with pending := [c] }
  | c :: cs =>
    { s with
      pending := [(c :: cs).getD (Config.freeOrder s.freeCount % (cs.length + 1)) c]
      freeCount := s.freeCount + 1 }

end Sys2Proof.Machine
end

