-- ==== Sys2Proof/Machine/BusCommands.lean ====
section
/-! DEFINITION. The events of the surface bus and of the bus engine's timers (R1 to R22). A timer's event has its effect while
that timer runs in the phase that owns it, and cannot come otherwise (log 3, log 4). -/

namespace Sys2Proof.Machine

/-- SYNC_FALL (R1). -/
def execSyncFall (s : State) : Host.Outcome State Fault Refusal :=
  .next s.pull

/-- SYNC_RISE (R1): a line that is high already does not rise. -/
def execSyncRise (low : Nat) (dat : Bool) (s : State) : Host.Outcome State Fault Refusal :=
  .next (if s.bus.lineLow then s.rise low dat else s)

/-- ROUND_TIMER_EXPIRY (R8): the station pulls SYNC low where it is high, and that fall opens the round. -/
def execRoundTimerExpiry (s : State) : Host.Outcome State Fault Refusal :=
  .next (if s.bus.phase = .idle ∧ s.bus.roundTimer.isSome then
    State.pull { s with bus := { s.bus with roundTimer := none } } else s)

/-- WINDOW_HOLD_END (R10): W after the window's fall the station releases SYNC and waits for the rise. -/
def execWindowHoldEnd (s : State) : Host.Outcome State Fault Refusal :=
  .next (if s.bus.holdTimer.isSome then
    { s with bus := { s.bus.lowAtLeast (windowTicks s.store.record) with holdTimer := none } } else s)

/-- GAP_TIMER_EXPIRY (R12): the station pulls SYNC low, and that fall opens the quiet slot. -/
def execGapTimerExpiry (s : State) : Host.Outcome State Fault Refusal :=
  .next (if s.bus.phase = .gap ∧ s.bus.gapTimer.isSome then
    State.pull { s with bus := { s.bus with gapTimer := none } } else s)

/-- SLOT_INTERVAL_EXPIRY (R3): the station strobes SYNC low, and that fall opens the next slot. -/
def execSlotIntervalExpiry (s : State) : Host.Outcome State Fault Refusal :=
  .next (if s.bus.phase.isSlot ∧ s.bus.slotTimer.isSome then
    State.pull { s with bus := { s.bus with slotTimer := none } } else s)

/-- STROBE_END (R3): the station releases SYNC. -/
def execStrobeEnd (s : State) : Host.Outcome State Fault Refusal :=
  .next { s with bus := { s.bus with strobeTimer := none } }

/-- LONG_LOW (R14). -/
def execLongLow (s : State) : Host.Outcome State Fault Refusal :=
  .next (if s.bus.lineLow ∧ s.bus.phase.isSlot then s.abandonRound else s)

/-- BREAK_DETECTED (R16). Sent in a slot phase, it reaches BREAK with no record of an abandonment: the model's choice
(log 26). -/
def execBreakDetected (s : State) : Host.Outcome State Fault Refusal :=
  .next (if s.bus.lineLow ∧ s.bus.breakApplies then s.detectBreak else s)

/-- COMMANDED_BREAK_END (R20). -/
def execCommandedBreakEnd (otherHolds : Bool) (s : State) : Host.Outcome State Fault Refusal :=
  .next (if s.bus.phase = .breakDrive ∧ s.bus.breakTimer.isSome then s.releaseBreak otherHolds else s)

/-- SYNC_STUCK (R18): 50 ms of low, so the shorter limits have been reached too (log 5). -/
def execSyncStuck (s : State) : Host.Outcome State Fault Refusal :=
  .next (if s.bus.lineLow ∧ s.bus.phase ≠ .off then
    State.takeLowLimits { s with bus := s.bus.lowAtLeast stuckLimit } else s)

/-- SETTLING_COMPLETE (R22). -/
def execSettlingComplete (s : State) : Host.Outcome State Fault Refusal :=
  .next (if s.bus.phase = .settling ∧ s.bus.settleTimer.isSome then
    { s with bus := s.bus.enterIdle s.store.record } else s)

end Sys2Proof.Machine
end

