-- ==== Sys2Proof/Machine/LampCommands.lean ====
section
/-! DEFINITION. The events of the indicator's timers (R165 to R168). -/

namespace Sys2Proof.Machine

/-- PRE_CLEAR_END (R166). -/
def execPreClearEnd (s : State) : Host.Outcome State Fault Refusal :=
  .next (if s.indicator.phase = .preClear then
    { s with indicator := s.indicator.preClearEnds s.store.record } else s)

/-- POST_CLEAR_END (R168). -/
def execPostClearEnd (s : State) : Host.Outcome State Fault Refusal :=
  .next (if s.indicator.phase = .postClear then
    { s with indicator := s.indicator.postClearEnds s.store.record } else s)

/-- MINIMUM_PUMP_TIMER_EXPIRY (R167). -/
def execMinimumPumpTimerExpiry (s : State) : Host.Outcome State Fault Refusal :=
  .next (if s.indicator.phase = .pumping ∧ s.indicator.minPumpTimer.isSome then
    { s with indicator := s.indicator.minPumpExpires s.store.record } else s)

/-- PUMP_HIGH_TIME_END (R165): PUMP goes low for the rest of the period. -/
def execPumpHighTimeEnd (s : State) : Host.Outcome State Fault Refusal :=
  .next (if s.indicator.phase = .pumping ∧ s.indicator.pumpHigh then
    { s with indicator :=
      { s.indicator with pumpHigh := false, pumpPos := max s.indicator.pumpPos (pumpHighTicks s.store.record) } }
  else s)

/-- PUMP_PERIOD_END (R165): PUMP rises for the next period. -/
def execPumpPeriodEnd (s : State) : Host.Outcome State Fault Refusal :=
  .next (if s.indicator.phase = .pumping then
    { s with indicator := { s.indicator with pumpHigh := true, pumpPos := 0 } } else s)

end Sys2Proof.Machine
end

