-- ==== Sys2Proof/Machine/PortCommands.lean ====
section
/-! DEFINITION. The commands of the local port and of its pins. -/

namespace Sys2Proof.Machine

/-- CSN_FALL (R144): a transaction begins in IDLE; during reset only the pin changes (R161). -/
def execCsnFall (s : State) : Host.Outcome State Fault Refusal :=
  .next (if s.port.csnLow then s
  else if s.port.state = .idle ∧ s.inReset = false then
    { s with port := { s.port.idle with csnLow := true, state := .receiving } }
  else { s with port := { s.port with csnLow := true } })

/-- CSN_RISE (R144, R158): the transaction ends. -/
def execCsnRise (s : State) : Host.Outcome State Fault Refusal :=
  .next (if s.port.csnLow then { s with queue := s.endRead, port := { s.port.idle with csnLow := false } } else s)

/-- NOP (R151). -/
def execNop (s : State) : Host.Outcome State Fault Refusal :=
  .next (s.whenReceiving State.takeNop)

/-- GET_STATUS (R146). -/
def execGetStatus (s : State) : Host.Outcome State Fault Refusal :=
  .next (s.whenReceiving State.takeGetStatus)

/-- READ_EVENT (R157). -/
def execReadEvent (s : State) : Host.Outcome State Fault Refusal :=
  .next (s.whenReceiving State.takeReadEvent)

/-- PEEK_TOUCHES (R147). -/
def execPeekTouches (s : State) : Host.Outcome State Fault Refusal :=
  .next (s.whenReceiving State.takePeekTouches)

/-- READ_CHANNEL (R148). -/
def execReadChannel (n : Byte) (s : State) : Host.Outcome State Fault Refusal :=
  .next (s.whenReceiving (State.takeReadChannel n))

/-- READ_PEERS (R151). -/
def execReadPeers (s : State) : Host.Outcome State Fault Refusal :=
  .next (s.whenReceiving State.takeReadPeers)

/-- WRITE_CONFIG (R135). -/
def execWriteConfig (r : ConfigRecord) (s : State) : Host.Outcome State Fault Refusal :=
  .next (s.whenReceiving (State.takeWriteConfig r))

/-- START (R137). -/
def execStart (s : State) : Host.Outcome State Fault Refusal :=
  .next (s.whenReceiving State.takeStart)

/-- RECALIBRATE (R149). -/
def execRecalibrate (mask : Byte) (s : State) : Host.Outcome State Fault Refusal :=
  .next (s.whenReceiving (State.takeRecalibrate mask))

/-- BREAK_NETWORK (R19). -/
def execBreakNetwork (s : State) : Host.Outcome State Fault Refusal :=
  .next (s.whenReceiving State.takeBreakNetwork)

/-- SET_LAMP (R150). -/
def execSetLamp (mode : Byte) (s : State) : Host.Outcome State Fault Refusal :=
  .next (s.whenReceiving (State.takeSetLamp mode))

/-- UNKNOWN_COMMAND (R145): a byte that names a command is no such event (log 20). -/
def execUnknownCommand (code : Byte) (s : State) : Host.Outcome State Fault Refusal :=
  .next (if namesCommand code then s else s.whenReceiving State.takeUnknown)

/-- SCK_RISING_EDGE (R143): a bit comes in while receiving and goes out while sending; the port ignores SCK otherwise. -/
def execSckRisingEdge (sdi : Bool) (s : State) : Host.Outcome State Fault Refusal :=
  .next (match s.port.state with
    | .receiving => s.bitIn sdi
    | .sending => s.bitOut
    | .idle | .ignoring => s)

end Sys2Proof.Machine
end

