-- ==== Sys2Proof/Machine/ResetCommands.lean ====
section
/-! DEFINITION. RESET and RESET_END (R21, R69, R134, R161, R170, R177). -/

namespace Sys2Proof.Machine

/-- Every block takes its reset state; the levels of the input pins CSN and SYNC are not the station's to change, and the
commands that wait are not part of it (R177, log 10). -/
def State.beginReset (s : State) : State :=
  { State.reset with
    bus := { Bus.reset with lineLow := s.bus.lineLow }
    port := { Port.reset with csnLow := s.port.csnLow }
    inReset := true
    pending := s.pending
    freeCount := s.freeCount }

/-- RESET. -/
def execReset (s : State) : Host.Outcome State Fault Refusal :=
  .next s.beginReset

/-- RESET_END: the port enters IGNORING where CSN is low, IDLE where it is high (R161). -/
def execResetEnd (s : State) : Host.Outcome State Fault Refusal :=
  .next (if s.inReset then
    { s with inReset := false, port := { s.port with state := if s.port.csnLow then .ignoring else .idle } }
  else s)

end Sys2Proof.Machine
end

