-- ==== Sys2Proof/Machine/SenseCommands.lean ====
section
/-! DEFINITION. The events of the front end and of the channel processor. -/

namespace Sys2Proof.Machine

/-- OSCILLATOR_CYCLE (R103, R105): counted while a count runs, in a configured channel. -/
def execOscillatorCycle (n : Fin 8) (cycles : Nat) (s : State) : Host.Outcome State Fault Refusal :=
  .next (if s.frontEnd.counting ∧ isConfigured s.store.record n then
    { s with frontEnd := s.frontEnd.countCycles n cycles } else s)

/-- PROCESSING_OPERATION (R117). -/
def execProcessingOperation (s : State) : Host.Outcome State Fault Refusal :=
  .next s.completeOperation

end Sys2Proof.Machine
end

