-- ==== Sys2Proof/Machine/Dispatch.lean ====
section
/-! DEFINITION. One arm per command. -/

namespace Sys2Proof.Machine

/-- The effect of a command on everything but the queue of waiting commands. -/
def exec (i : Instr) (s : State) : Host.Outcome State Fault Refusal :=
  match i with
  | .reset => Sys2Proof.Machine.execReset s
  | .resetEnd => Sys2Proof.Machine.execResetEnd s
  | .csnFall => Sys2Proof.Machine.execCsnFall s
  | .csnRise => Sys2Proof.Machine.execCsnRise s
  | .nop => Sys2Proof.Machine.execNop s
  | .getStatus => Sys2Proof.Machine.execGetStatus s
  | .readEvent => Sys2Proof.Machine.execReadEvent s
  | .peekTouches => Sys2Proof.Machine.execPeekTouches s
  | .readChannel n => Sys2Proof.Machine.execReadChannel n s
  | .readPeers => Sys2Proof.Machine.execReadPeers s
  | .writeConfig r => Sys2Proof.Machine.execWriteConfig r s
  | .start => Sys2Proof.Machine.execStart s
  | .recalibrate m => Sys2Proof.Machine.execRecalibrate m s
  | .breakNetwork => Sys2Proof.Machine.execBreakNetwork s
  | .setLamp m => Sys2Proof.Machine.execSetLamp m s
  | .unknownCommand c => Sys2Proof.Machine.execUnknownCommand c s
  | .syncFall => Sys2Proof.Machine.execSyncFall s
  | .syncRise low dat => Sys2Proof.Machine.execSyncRise low dat s
  | .roundTimerExpiry => Sys2Proof.Machine.execRoundTimerExpiry s
  | .windowHoldEnd => Sys2Proof.Machine.execWindowHoldEnd s
  | .gapTimerExpiry => Sys2Proof.Machine.execGapTimerExpiry s
  | .slotIntervalExpiry => Sys2Proof.Machine.execSlotIntervalExpiry s
  | .strobeEnd => Sys2Proof.Machine.execStrobeEnd s
  | .longLow => Sys2Proof.Machine.execLongLow s
  | .breakDetected => Sys2Proof.Machine.execBreakDetected s
  | .commandedBreakEnd o => Sys2Proof.Machine.execCommandedBreakEnd o s
  | .syncStuck => Sys2Proof.Machine.execSyncStuck s
  | .settlingComplete => Sys2Proof.Machine.execSettlingComplete s
  | .oscillatorCycle n k => Sys2Proof.Machine.execOscillatorCycle n k s
  | .processingOperation => Sys2Proof.Machine.execProcessingOperation s
  | .preClearEnd => Sys2Proof.Machine.execPreClearEnd s
  | .postClearEnd => Sys2Proof.Machine.execPostClearEnd s
  | .minimumPumpTimerExpiry => Sys2Proof.Machine.execMinimumPumpTimerExpiry s
  | .pumpHighTimeEnd => Sys2Proof.Machine.execPumpHighTimeEnd s
  | .pumpPeriodEnd => Sys2Proof.Machine.execPumpPeriodEnd s
  | .sckRisingEdge sdi => Sys2Proof.Machine.execSckRisingEdge sdi s

end Sys2Proof.Machine
end

