-- ==== Sys2Proof/Safety.lean ====
section
/-! DEFINITION. What a safe station is: the conditions on a state that the rules promise at every moment, and the terms in which
the statements of Certificates/Slice0/Obligations.lean say what a command leaves behind. -/

namespace Sys2Proof.Machine

/-! ## The checks on the record, read from its bytes -/

/-- Byte `i` of the record as a number. -/
def recordNat (r : ConfigRecord) (i : Nat) : Nat :=
  (r.toList.getD i 0#8).toNat

/-- Descriptor `m` is configured and names pin `p` (R139). -/
def NamesPin (r : ConfigRecord) (m p : Nat) : Prop :=
  m < recordNat r 1 / 16 ∧
    (recordNat r (2 + m) / 8 % 8 = p ∨ (recordNat r (2 + m) / 64 = 1 ∧ recordNat r (2 + m) % 8 = p))

/-- Descriptor `n` fails (R139). -/
def DescriptorFails (r : ConfigRecord) (n : Nat) : Prop :=
  n < recordNat r 1 / 16 ∧
    (1 < recordNat r (2 + n) / 64 ∨
      (∃ m < n, NamesPin r m (recordNat r (2 + n) / 8 % 8)) ∨
      (recordNat r (2 + n) / 64 = 1 ∧
        (recordNat r (2 + n) % 8 = recordNat r (2 + n) / 8 % 8 ∨
          ∃ m < n, NamesPin r m (recordNat r (2 + n) % 8))))

/-- Field `k` of the record fails its check (R138), read from the bytes of the record (R172). -/
def FieldFails (r : ConfigRecord) (k : Nat) : Prop :=
  let b := recordNat r
  let touch := 16 * b 12 + b 13 / 16
  let release := 256 * (b 13 % 16) + b 14
  let hold := 256 * (b 16 % 4) + b 17
  (k = 1 ∧ 31 < b 0 / 4) ∨
  (k = 2 ∧ (b 1 / 16 = 0 ∨ 8 < b 1 / 16)) ∨
  (3 ≤ k ∧ k ≤ 10 ∧ DescriptorFails r (k - 3)) ∨
  (k = 11 ∧ (b 10 < 10 ∨ 200 < b 10)) ∨
  (k = 12 ∧ (b 11 < 4 ∨ 100 < b 11 ∨ 1000 * b 11 < 10 * b 10 + 2000)) ∨
  (k = 13 ∧ (touch < 8 ∨ 4095 < touch)) ∨
  (k = 14 ∧ (release < 4 ∨ touch ≤ release)) ∨
  (k = 15 ∧ (b 15 / 32 = 0 ∨ 4 < b 15 / 32)) ∨
  (k = 16 ∧ ((1 ≤ hold ∧ hold ≤ 15) ∨ 1023 < hold)) ∨
  (k = 17 ∧ 3 < b 15 / 8 % 4) ∨
  (k = 18 ∧ 15 < b 18 / 16) ∨
  (k = 19 ∧ 7 < b 16 / 4 % 8) ∨
  (k = 20 ∧ 5 < b 15 % 8) ∨
  (k = 21 ∧ 3 < b 16 / 64) ∨
  (k = 22 ∧ (b 1 % 16 = 0 ∨ 8 < b 1 % 16)) ∨
  (k = 23 ∧ 25 < b 19 / 8) ∨
  (k = 24 ∧ 2 < b 0 % 4)

/-! ## Invariants -/

/-- The event queue (R153, R156): at most 16 records, a lost count of at most 255, and at most one TOUCH_MOVE for any id. -/
def QueueInv (s : State) : Prop :=
  s.queue.records.length ≤ 16 ∧ s.queue.lost ≤ 255 ∧
    ∀ id, (s.queue.records.filter (EventRecord.isMoveOf id)).length ≤ 1

/-- A station in CONFIG (R21, R68, R136, R140, R170): exactly then the bus engine is in OFF and the store is unlocked, and then
nothing is queued, tracked, counted or in flight and the lamp mode is OFF. A locked record has passed START's checks (R137). -/
structure ConfigInv (s : State) : Prop where
  off_iff : s.agreement.membership = .config ↔ s.bus.phase = .off
  locked_iff : s.store.locked = true ↔ s.agreement.membership ≠ .config
  queue_empty : s.agreement.membership = .config → s.queue.records = [] ∧ s.queue.lost = 0
  tracker_reset : s.agreement.membership = .config → s.tracker = Tracker.reset
  nothing_in_flight : s.agreement.membership = .config → s.processor.inFlight = none
  not_counting : s.agreement.membership = .config → s.frontEnd.counting = false
  lamp_off : s.agreement.membership = .config → s.indicator.mode = .off ∧ s.indicator.phase = .dark
  record_valid : s.store.locked = true → ∀ k, ¬ FieldFails s.store.record k

/-- The phases of a round before its digest passes. -/
def Phase.beforeDigest (p : Phase) : Bool :=
  match p with
  | .window | .gap | .quiet | .presence | .claim | .bid => true
  | .off | .settling | .idle | .digestA | .digestB | .brk | .breakDrive => false

/-- The part in the digest passes and the bid agree with membership (R27, R68, R71, R73). -/
structure RoleInv (s : State) : Prop where
  part_discarded : s.bus.phase.beforeDigest = true → s.agreement.part = none
  part_member : s.agreement.part = some .member → s.agreement.membership = .member
  part_listener : s.agreement.part = some .listener ∨ s.agreement.part = some .forcing →
    s.agreement.membership = .listen ∨ s.agreement.membership = .member
  bidder_member : s.contest.inContest = true → s.agreement.membership = .member

/-- How far the contest count has come in each phase, and how many winners there can be (R5, R26, R38). -/
def contestRoom (p : Phase) (count winners : Nat) : Prop :=
  match p with
  | .off | .window | .gap | .quiet | .presence => count = 0 ∧ winners = 0
  | .claim => count < 4 ∧ winners ≤ count
  | .bid => count ≤ 4 ∧ winners < count
  | .digestA | .digestB => count ≤ 4 ∧ winners ≤ count
  | .idle | .settling | .brk | .breakDrive => count = 0 ∧ winners ≤ 4

/-- The round's winner list (R33, R36): in strictly descending bid value, at distinct positions, and no longer than the contest
count allows. -/
structure WinnerInv (s : State) : Prop where
  descending : s.contest.winners.Pairwise fun x y => y.value < x.value ∧ x.position ≠ y.position
  positions : ∀ w ∈ s.contest.winners, w.position < 256
  room : contestRoom s.bus.phase s.bus.contestCount s.contest.winners.length

/-- The touch list and the next id (R44, R45, R46). -/
structure TouchListOk (t : Tracker) : Prop where
  length_le : t.touches.length ≤ 4
  positions_distinct : (t.touches.map TouchRecord.position).Nodup
  positions_lt : ∀ r ∈ t.touches, r.position < 256
  ids_distinct : (t.touches.map TouchRecord.id).Nodup
  ids_range : ∀ r ∈ t.touches, 1 ≤ r.id ∧ r.id ≤ 255
  next_range : 1 ≤ t.nextId ∧ t.nextId ≤ 255
  next_free : ∀ r ∈ t.touches, r.id ≠ t.nextId

/-- The tracker: its list is as R45 and R46 say, and empty outside MEMBER (R49) and while a listener's outcome is to come. -/
structure TrackerInv (s : State) : Prop where
  list_ok : TouchListOk s.tracker
  empty_outside : s.agreement.membership ≠ .member → s.tracker.touches = []
  empty_listening : s.agreement.part = some .listener ∨ s.agreement.part = some .forcing → s.tracker.touches = []

/-- The surface's shared state as one station holds it. -/
structure SurfaceInv (s : State) : Prop where
  config : ConfigInv s
  role : RoleInv s
  winner : WinnerInv s
  tracker : TrackerInv s

/-- The drive of DAT (R2, R68): dominant only in an open slot, by a station in LISTEN or MEMBER. -/
def DatInv (s : State) : Prop :=
  s.bus.datDrive = true →
    s.bus.phase.isSlot = true ∧ s.bus.lineLow = true ∧
      (s.agreement.membership = .listen ∨ s.agreement.membership = .member)

/-- The drive of SYNC (R1, R24): none in OFF, SETTLING, IDLE and BREAK; the window hold runs in WINDOW alone and the commanded
break in BREAK_DRIVE alone. -/
structure SyncInv (s : State) : Prop where
  released : s.bus.phase = .off ∨ s.bus.phase = .settling ∨ s.bus.phase = .idle ∨ s.bus.phase = .brk →
    s.holdsSync = false
  hold_window : s.bus.holdTimer.isSome = true → s.bus.phase = .window
  break_drive : s.bus.breakTimer.isSome = true → s.bus.phase = .breakDrive

/-- Demand is what the mode and the touch list give (R163), and the lamp's timers and pins follow its phase (R164). -/
structure LampInv (s : State) : Prop where
  demand_derived : s.indicator.demand = demandOf s.store.record s.indicator.mode s.tracker.touches
  clear_timer : s.indicator.clearTimer.isSome = true ↔
    (s.indicator.phase = .preClear ∨ s.indicator.phase = .postClear)
  pump_timer : s.indicator.minPumpTimer.isSome = true → s.indicator.phase = .pumping ∧ s.indicator.elapsed = false
  pump_high : s.indicator.pumpHigh = true → s.indicator.phase = .pumping
  dark_undemanded : s.indicator.phase = .dark → s.indicator.demand = false

/-- One channel entry within the ranges of R116: a baseline exactly outside UNUSED and CALIBRATING, and every item at a value
that its row of the table allows. -/
structure ChannelOk (c : ChannelEntry) : Prop where
  baseline_iff : c.baseline.isSome = true ↔ (c.state ≠ .unused ∧ c.state ≠ .calibrating)
  baseline_le : ∀ b, c.baseline = some b → b ≤ 65535
  calibration_le : c.calCount ≤ 3
  sum_le : c.calSum ≤ 65535 * c.calCount
  result_le : ∀ v, c.lastResult = some v → v ≤ 65535
  delta_range : -65535 ≤ c.delta ∧ c.delta ≤ 65535
  strength_le : c.strength ≤ 4095
  filter_le : c.filter ≤ 3
  hold_le : c.hold ≤ 1024
  reverse_le : c.reverse ≤ 4

/-- The channel table and the results on their way to it (R109, R116). -/
def ChannelInv (s : State) : Prop :=
  (∀ n : Fin 8, ChannelOk s.processor.channels[n]) ∧ s.processor.blanket ≤ 64 ∧
    ∀ h, s.processor.inFlight = some h → ∀ (n : Fin 8) (v : Nat), h.results[n] = some v → v ≤ 65535

/-- The front end (R105, R108): counters within 16 bits, and a last window length below the break limit. -/
def FrontEndInv (s : State) : Prop :=
  (∀ n : Fin 8, s.frontEnd.counters[n] ≤ 65535) ∧ s.frontEnd.lastLength ≤ 63999

/-! ## The terms of the statements -/

/-- The port has taken the command (R144): SENDING, with these outgoing bytes latched and none of them shifted out. -/
def State.withAnswer (bytes : List Byte) (s : State) : State :=
  { s with port := { s.port with state := .sending, rxBits := [], rxBytes := [], tx := bytes, sent := 0 } }

/-- A slot is open (R3, R104): the line is low from now on, the station strobes for 2 µs, a count runs from 0, and the station
drives DAT as `drive` says. -/
def State.slotOpened (drive : Bool) (s : State) : State :=
  { s with
    bus := { s.bus with
      lineLow := true
      lowTicks := 0
      driveBreakSeen := false
      gapTimer := none
      slotTimer := none
      strobeTimer := if s.bus.strobeTimer.isSome then s.bus.strobeTimer else some 16
      datDrive := drive }
    frontEnd := { s.frontEnd with
      counting := true
      counters := Vector.replicate 8 0
      overrange := Vector.replicate 8 false } }

/-- The open slot's low ends in time: below the strobe limit of 160 ticks (R4). -/
abbrev SlotLow (low : Nat) (s : State) : Prop :=
  s.bus.lineLow = true ∧ max s.bus.lowTicks low < 160

/-- A slot is complete (R2, R3, R4, R106): the line is high, the count is over, the slot interval of 8 µs runs, the next slot
index is due and DAT is released. -/
def State.slotEnded (low : Nat) (s : State) : State :=
  { s with
    bus := { s.bus with
      lineLow := false
      lowTicks := max s.bus.lowTicks low
      stuckReported := false
      driveBreakSeen := false
      slotTimer := some 64
      slotIndex := s.bus.slotIndex + 1
      datDrive := false }
    frontEnd := { s.frontEnd with counting := false } }

/-- The bus engine between rounds (R7, R8, R19, R20, R24): SYNC is released, and it is in IDLE with its round timer of P and
the stagger, or, with a break pending, in BREAK_DRIVE for 12 ms, the line low by its own pull. -/
def Bus.betweenRounds (r : ConfigRecord) (b : Bus) : Bus :=
  if b.pendingBreak then
    { b with
      phase := .breakDrive
      slotIndex := 0
      contestCount := 0
      bitIndex := 0
      pendingBreak := false
      slotTimer := none
      strobeTimer := none
      settleTimer := none
      roundTimer := none
      breakTimer := some 96000
      driveBreakSeen := false
      lineLow := true
      lowTicks := if b.lineLow then b.lowTicks else 0 }
  else
    { b with
      phase := .idle
      slotIndex := 0
      contestCount := 0
      bitIndex := 0
      slotTimer := none
      strobeTimer := none
      settleTimer := none
      roundTimer := some (8000 * cfgPeriod r + 800 * cfgAddress r) }

/-- The bus engine in SETTLING (R22, R24): every timer stopped but the wait of 100 µs, which runs while the line is high. -/
def Bus.settlingFrom (b : Bus) : Bus :=
  { b with
    phase := .settling
    slotIndex := 0
    contestCount := 0
    bitIndex := 0
    roundTimer := none
    holdTimer := none
    gapTimer := none
    slotTimer := none
    strobeTimer := none
    breakTimer := none
    settleTimer := if b.lineLow then none else some 800
    datDrive := false }

/-- The contest phase is over (R39, R48): a member with a clear fault mark has applied the tracking step. -/
def State.afterContests (s : State) : State :=
  if s.agreement.membership = .member ∧ s.contest.faultMark = false then s.track s.contest.winners else s

/-- `s` with the tracker, the event queue and the indicator of `u`: what a clear or a tracking step changes. -/
def State.withTracking (s u : State) : State :=
  { s with tracker := u.tracker, queue := u.queue, indicator := u.indicator }

/-- `s` with one more record arriving at the event queue, with the present round stamp. -/
def State.withRecord (e : Event) (s : State) : State :=
  { s with queue := s.queue.arrive { stamp := s.bus.stamp, event := e } }

/-- Membership `m`, with the listen-round counter 0 and the forcing flag clear (R70, R78, R80, R84, R85). -/
def State.withMembership (m : Membership) (s : State) : State :=
  { s with agreement := { s.agreement with membership := m, listenRounds := 0, forcing := false } }

/-- The agreement unit without its working items (R73, R83). -/
def State.withoutItems (s : State) : State :=
  { s with agreement :=
    { s.agreement with latched := none, part := none, passA := [], passB := [], difference := false } }

/-- The contest unit without anything of a round (R26, R42, R43). -/
def Contest.empty : Contest where
  winners := []
  won := Vector.replicate 8 false
  suppressed := Vector.replicate 8 false
  bidding := false
  bid := none
  lost := false
  assembly := []
  faultMark := false

/-- The entry of a channel that has just entered CALIBRATING (R126). -/
def ChannelEntry.calibrating (c : ChannelEntry) : ChannelEntry where
  state := .calibrating
  baseline := none
  calSum := 0
  calCount := 0
  lastResult := c.lastResult
  delta := 0
  strength := 0
  filter := 0
  hold := 0
  reverse := 0

/-- The row of the table that stands for a local-port command (R144). -/
def rowOf (c : PortCommand) : Instr :=
  match c with
  | .nop => .nop
  | .getStatus => .getStatus
  | .readEvent => .readEvent
  | .peekTouches => .peekTouches
  | .readChannel n => .readChannel n
  | .readPeers => .readPeers
  | .writeConfig r => .writeConfig r
  | .start => .start
  | .recalibrate m => .recalibrate m
  | .breakNetwork => .breakNetwork
  | .setLamp m => .setLamp m
  | .unknown code => .unknownCommand code

/-- Clock these bits into SDI, one SCK rising edge each. -/
def clockIn (bits : List Bool) (s : State) : Host.Outcome State Fault Refusal :=
  match bits with
  | [] => .next s
  | b :: rest =>
    match exec (.sckRisingEdge b) s with
    | .next t => clockIn rest t
    | .fault f => .fault f
    | .refused q => .refused q

/-- One bid slot with bit index `i` among the contest units of several stations: the line carries the OR of what they drive
(R30), and each reads it back (R31). -/
def bidSlot (i : Nat) (cs : List Contest) : List Contest :=
  let dat := cs.any fun c => c.inContest && c.bidBit i
  cs.map fun c => c.readBack dat (c.inContest && c.bidBit i)

/-- One digest slot with bit index `i` among the agreement units of several stations (R71, R72). -/
def digestSlot (passB : Bool) (i : Nat) (units : List Agreement) : List Agreement :=
  let dat := units.any fun a => a.drives passB i
  units.map fun a => a.recordSlot passB dat (a.drives passB i)

/-- The two digest passes of a round among the agreement units of several stations. -/
def digestPasses (units : List Agreement) : List Agreement :=
  (List.range 16).foldl (fun us i => digestSlot true i us)
    ((List.range 16).foldl (fun us i => digestSlot false i us) units)

end Sys2Proof.Machine
end

