-- ==== Sys2Proof/WellFormed.lean ====
section
/-! DEFINITION. The checks on a command that its type does not make. -/

namespace Sys2Proof

/-- A byte counts as unknown exactly where it names no command (R145). -/
def PortCommand.wf (c : PortCommand) : Bool :=
  match c with
  | .unknown code => !namesCommand code
  | _ => true

/-- The checks: UNKNOWN_COMMAND carries a byte that names no command (R145), and OSCILLATOR_CYCLE reports at least one
complete cycle (R103). -/
def Instr.wf (i : Instr) : Bool :=
  match i with
  | .unknownCommand code => !namesCommand code
  | .oscillatorCycle _ cycles => decide (1 ≤ cycles)
  | _ => true

end Sys2Proof
end

