-- ==== Sys2Proof/Certificates/Slice0/Obligations.lean ====
section
/-! DEFINITION. What the provers are asked to show of the model, in the terms of Sys2Proof/Safety.lean. A hypothesis says in
which state a command completes; the conclusion names the next state whole, so it is the frame too. -/

open Sys2Proof Sys2Proof.Machine

/-! ## The queue of commands and the idle step -/

/-- A step takes the command at the front of the queue and runs it on the queue's rest. -/
def Obligations.StepRunsTheFrontCommand : Prop :=
  ∀ (c : Instr) (rest : List Instr) (s : State), s.pending = c :: rest →
    step s = exec c { s with pending := rest }

/-- MODEL'S CHOICE (log 1, log 2). On an empty queue a step lets one tick pass where nothing is due, and else puts one due
command into the queue, whatever the free value is. What is due: the end of a timer that has run out in its phase, a limit
that the present low has reached, an edge of the pump, and the end of a commanded break with the line still held (log 7). -/
def Obligations.IdleStepTicksOrTakesWhatIsDue : Prop :=
  (∀ (s : State) (c : Instr),
    c ∈ s.due ↔
      (c = .roundTimerExpiry ∧ s.bus.phase = .idle ∧ s.bus.roundTimer = some 0) ∨
      (c = .windowHoldEnd ∧ s.bus.holdTimer = some 0) ∨
      (c = .gapTimerExpiry ∧ s.bus.phase = .gap ∧ s.bus.gapTimer = some 0) ∨
      (c = .slotIntervalExpiry ∧ s.bus.phase.isSlot = true ∧ s.bus.slotTimer = some 0) ∨
      (c = .strobeEnd ∧ s.bus.strobeTimer = some 0) ∨
      (c = .settlingComplete ∧ s.bus.phase = .settling ∧ s.bus.settleTimer = some 0) ∨
      (c = .commandedBreakEnd true ∧ s.bus.phase = .breakDrive ∧ s.bus.breakTimer = some 0) ∨
      (c = .longLow ∧ s.bus.lineLow = true ∧ s.bus.phase.isSlot = true ∧ 160 ≤ s.bus.lowTicks) ∨
      (c = .breakDetected ∧ s.bus.lineLow = true ∧ s.bus.phase ≠ .off ∧ s.bus.phase ≠ .settling ∧ s.bus.phase ≠ .brk ∧
        (s.bus.phase = .breakDrive → s.bus.driveBreakSeen = false) ∧ 64000 ≤ s.bus.lowTicks) ∨
      (c = .syncStuck ∧ s.bus.lineLow = true ∧ s.bus.phase ≠ .off ∧ s.bus.stuckReported = false ∧
        400000 ≤ s.bus.lowTicks) ∨
      (c = .processingOperation ∧ s.processor.inFlight.isSome = true ∧ s.processor.operationTimer = some 0) ∨
      (c = .preClearEnd ∧ s.indicator.phase = .preClear ∧ s.indicator.clearTimer = some 0) ∨
      (c = .postClearEnd ∧ s.indicator.phase = .postClear ∧ s.indicator.clearTimer = some 0) ∨
      (c = .minimumPumpTimerExpiry ∧ s.indicator.phase = .pumping ∧ s.indicator.minPumpTimer = some 0) ∨
      (c = .pumpHighTimeEnd ∧ s.indicator.phase = .pumping ∧ s.indicator.pumpHigh = true ∧
        pumpHighTicks s.store.record ≤ s.indicator.pumpPos) ∨
      (c = .pumpPeriodEnd ∧ s.indicator.phase = .pumping ∧ pumpPeriod s.store.record ≤ s.indicator.pumpPos)) ∧
  ∀ s : State, s.pending = [] →
    (s.due = [] →
      step s = .next { s with
        bus := { s.bus with
          roundTimer := s.bus.roundTimer.map (· - 1)
          holdTimer := s.bus.holdTimer.map (· - 1)
          gapTimer := s.bus.gapTimer.map (· - 1)
          slotTimer := s.bus.slotTimer.map (· - 1)
          strobeTimer := s.bus.strobeTimer.map (· - 1)
          settleTimer := s.bus.settleTimer.map (· - 1)
          breakTimer := s.bus.breakTimer.map (· - 1)
          lowTicks := if s.bus.lineLow = true ∧ s.bus.phase ≠ .off then s.bus.lowTicks + 1 else s.bus.lowTicks }
        processor := { s.processor with operationTimer := s.processor.operationTimer.map (· - 1) }
        indicator := { s.indicator with
          clearTimer := s.indicator.clearTimer.map (· - 1)
          minPumpTimer := s.indicator.minPumpTimer.map (· - 1)
          pumpPos := if s.indicator.phase = .pumping then s.indicator.pumpPos + 1 else s.indicator.pumpPos } }) ∧
    (s.due ≠ [] → ∃ c ∈ s.due, ∃ n, step s = .next { s with pending := [c], freeCount := n })

/-- Every command is answered with a next state in every state, and none of them touches the queue of commands or takes a
free value. MODEL'S CHOICE: that a command which cannot occur in a state is answered there too (log 3, log 20), and the count
of free values (log 2). -/
def Obligations.EveryCommandIsAnswered : Prop :=
  ∀ (c : Instr) (s : State), ∃ t, exec c s = .next t ∧ t.pending = s.pending ∧ t.freeCount = s.freeCount

/-- A command that is due is due no longer once it has been taken: time never stops at it. What is due is the model's choice
(log 1). -/
def Obligations.DueCommandIsSpent : Prop :=
  ∀ (c : Instr) (s : State), c ∈ s.due → ∃ t, exec c s = .next t ∧ c ∉ t.due

/-! ## Reset -/

/-- RESET puts every block into its reset state at once, and every pin stands at its reset level. The levels of the input
pins stay as they are (log 10), and the low's bookkeeping (log 25) and the discarded pump position (log 27) take the model's
values. -/
def Obligations.ResetPutsEveryBlockInItsResetState : Prop :=
  ∀ s : State, ∃ t, exec .reset s = .next t ∧
    t.bus.phase = .off ∧ t.bus.stamp = 0 ∧ t.bus.pendingBreak = false ∧ t.bus.slotIndex = 0 ∧ t.bus.contestCount = 0 ∧
    t.bus.bitIndex = 0 ∧ t.bus.roundTimer = none ∧ t.bus.gapTimer = none ∧ t.bus.slotTimer = none ∧
    t.bus.settleTimer = none ∧ t.bus.datDrive = false ∧ t.bus.lineLow = s.bus.lineLow ∧ t.holdsSync = false ∧
    t.bus.lowTicks = 0 ∧ t.bus.driveBreakSeen = false ∧ t.bus.stuckReported = false ∧
    t.contest = Contest.empty ∧
    t.tracker = { touches := [], nextId := 1 } ∧
    t.agreement = { membership := .config, listenRounds := 0, forcing := false, latched := none, part := none, passA := [],
                    passB := [], difference := false } ∧
    (∀ a : Fin 32, t.peers.entries[a] = { state := .absent, miss := 0, lastPresent := 0 } ∧ t.peers.presence[a] = none) ∧
    t.frontEnd = { counting := false, counters := Vector.replicate 8 0, overrange := Vector.replicate 8 false,
                   lastLength := 0, reportStamp := 0, reportArmed := true } ∧
    (∀ n : Fin 8, t.processor.channels[n] =
      { state := .unused, baseline := none, calSum := 0, calCount := 0, lastResult := none, delta := 0, strength := 0,
        filter := 0, hold := 0, reverse := 0 }) ∧
    t.processor.blanket = 0 ∧ t.processor.pendingMask = 0 ∧ t.processor.inFlight = none ∧
    t.store = { record := Vector.replicate 20 0, locked := false } ∧
    t.port = { state := .idle, csnLow := s.port.csnLow, rxBits := [], rxBytes := [], tx := [], sent := 0 } ∧
    t.queue = { records := [], lost := 0, latch := none } ∧
    t.indicator = { mode := .off, demand := false, phase := .dark, clearTimer := none, minPumpTimer := none,
                    elapsed := false, pumpHigh := false, pumpPos := 0 } ∧
    t.inReset = true ∧ t.attnLow = false ∧ t.sdo = none ∧ t.pumpPin = false ∧ t.clearPin = false ∧
    (∀ p : Fin 8, t.sensePin p = .heldLow) ∧ t.pending = s.pending ∧ t.freeCount = s.freeCount

/-- At the end of reset the port enters IGNORING where CSN is low and IDLE where it is high; a RESET_END outside reset is no
event (log 3). -/
def Obligations.ResetEndLooksAtCsn : Prop :=
  ∀ s : State,
    (s.inReset = true → s.port.csnLow = true →
      exec .resetEnd s = .next { s with inReset := false, port := { s.port with state := .ignoring } }) ∧
    (s.inReset = true → s.port.csnLow = false →
      exec .resetEnd s = .next { s with inReset := false, port := { s.port with state := .idle } }) ∧
    (s.inReset = false → exec .resetEnd s = .next s)

/-! ## The local port -/

/-- A fall of CSN begins a transaction in IDLE; in any other state of the port, and during reset, only the pin changes. A
rise ends it: a READ_EVENT whose status byte and 8 result bytes have been shifted out removes the head where the latched
record still stands there unchanged, and reports a lost count above 0 with an OVERFLOW record. (The latched record's marks:
log 22; a bit is out at its rising edge: log 12; a fall of CSN that is low and a rise of CSN that is high are no events:
log 3.) -/
def Obligations.CsnBeginsAndEndsATransaction : Prop :=
  (∀ s : State,
     (s.port.csnLow = false → s.port.state = .idle → s.inReset = false →
       exec .csnFall s = .next { s with port :=
         { state := .receiving, csnLow := true, rxBits := [], rxBytes := [], tx := [], sent := 0 } }) ∧
     (s.port.csnLow = false → (s.port.state ≠ .idle ∨ s.inReset = true) →
       exec .csnFall s = .next { s with port := { s.port with csnLow := true } }) ∧
     (s.port.csnLow = true → exec .csnFall s = .next s)) ∧
  (∀ s : State,
     let done : Port := { state := .idle, csnLow := false, rxBits := [], rxBytes := [], tx := [], sent := 0 }
     (s.port.csnLow = true → s.queue.latch = some .intact → 72 ≤ s.port.sent → s.queue.lost = 0 →
       ∀ r rest, s.queue.records = r :: rest →
         exec .csnRise s = .next { s with queue := { records := rest, lost := 0, latch := none }, port := done }) ∧
     (s.port.csnLow = true → s.queue.latch = some .intact → 72 ≤ s.port.sent → s.queue.lost ≠ 0 →
       ∀ r rest, s.queue.records = r :: rest →
         exec .csnRise s = .next { s with
           queue := { records := rest ++ [{ stamp := s.bus.stamp, event := .overflow s.queue.lost }], lost := 0,
                      latch := none }
           port := done }) ∧
     (s.port.csnLow = true → (s.queue.latch ≠ some .intact ∨ s.port.sent < 72) →
       exec .csnRise s = .next { s with queue := { s.queue with latch := none }, port := done }) ∧
     (s.port.csnLow = false → exec .csnRise s = .next s))

/-- A rising edge of SCK takes one bit in while receiving, and gives one bit out while sending; otherwise the port ignores
it. The edge that completes the last incoming byte takes the command. SDO presents the latched bytes, most significant bit
first, and 0 beyond the last; its next bit stands from the rising edge on (log 12). -/
def Obligations.ClockEdgeShiftsOneBit : Prop :=
  ∀ (sdi : Bool) (s : State),
    (s.port.state = .receiving → s.port.rxBits.length < 7 →
      exec (.sckRisingEdge sdi) s = .next { s with port := { s.port with rxBits := s.port.rxBits ++ [sdi] } }) ∧
    (s.port.state = .receiving → s.port.rxBits.length = 7 →
      decodeCommand (s.port.rxBytes ++ [byteOfBits (s.port.rxBits ++ [sdi])]) = none →
      exec (.sckRisingEdge sdi) s = .next { s with port :=
        { s.port with rxBits := [], rxBytes := s.port.rxBytes ++ [byteOfBits (s.port.rxBits ++ [sdi])] } }) ∧
    (∀ c, s.port.state = .receiving → s.port.rxBits.length = 7 →
      decodeCommand (s.port.rxBytes ++ [byteOfBits (s.port.rxBits ++ [sdi])]) = some c →
      ∃ t, exec (.sckRisingEdge sdi) s = .next t ∧ exec (rowOf c) s = .next t) ∧
    (s.port.state = .sending →
      exec (.sckRisingEdge sdi) s = .next { s with port := { s.port with sent := s.port.sent + 1 } }) ∧
    (s.port.state = .idle ∨ s.port.state = .ignoring → exec (.sckRisingEdge sdi) s = .next s) ∧
    (s.port.state = .receiving → s.sdo = some false) ∧
    (∀ b, s.port.state = .sending → s.port.tx[s.port.sent / 8]? = some b →
      s.sdo = some (b.getLsbD (7 - s.port.sent % 8))) ∧
    (s.port.state = .sending → 8 * s.port.tx.length ≤ s.port.sent → s.sdo = some false) ∧
    (s.port.state = .idle ∨ s.port.state = .ignoring → s.sdo = none)

/-- Clocking in the bits of a command's bytes, from the fall of CSN on, has the effect of that command's row of the table.
(The rows as the moment a command is taken: log 11.) -/
def Obligations.ClockedBitsTakeTheCommand : Prop :=
  ∀ (c : PortCommand) (s : State), c.wf = true → s.port.state = .receiving → s.port.rxBits = [] → s.port.rxBytes = [] →
    clockIn (bitsOfBytes (encodeCommand c)) s = exec (rowOf c) s

/-- The bytes of a command decode to that command, operands and all, and no proper prefix of them decodes to a command. -/
def Obligations.PortCommandsRoundTrip : Prop :=
  ∀ c : PortCommand, c.wf = true →
    decodeCommand (encodeCommand c) = some c ∧
      ∀ k, k < (encodeCommand c).length → decodeCommand ((encodeCommand c).take k) = none

/-- NOP, GET_STATUS, PEEK_TOUCHES and READ_PEERS are answered DONE in every membership and change nothing but the port,
which sends what the station holds at that moment. -/
def Obligations.ReadingCommandsAnswerDone : Prop :=
  ∀ s : State, s.port.state = .receiving →
    exec .nop s = .next (s.withAnswer [0x01]) ∧
    exec .getStatus s = .next (s.withAnswer
      [0x01,
       match s.agreement.membership with | .config => 0 | .listen => 1 | .member => 2 | .conflict => 3,
       match s.bus.phase with | .off => 0 | .settling => 1 | .idle => 2 | .brk => 4 | .breakDrive => 5 | _ => 3,
       BitVec.ofNat 8 s.queue.records.length, BitVec.ofNat 8 s.queue.lost,
       BitVec.ofNat 8 (s.bus.stamp.toNat / 256), BitVec.ofNat 8 s.bus.stamp.toNat,
       BitVec.ofNat 8 s.tracker.nextId, BitVec.ofNat 8 s.tracker.touches.length]) ∧
    exec .peekTouches s = .next (s.withAnswer
      ([0x01, BitVec.ofNat 8 s.tracker.touches.length] ++ s.tracker.touches.flatMap fun t =>
        [BitVec.ofNat 8 t.id, BitVec.ofNat 8 t.position, BitVec.ofNat 8 (t.strength / 256), BitVec.ofNat 8 t.strength,
         BitVec.ofNat 8 t.miss])) ∧
    exec .readPeers s = .next (s.withAnswer
      (0x01 :: s.peers.entries.toList.flatMap fun p =>
        [BitVec.ofNat 8 (4 * (match p.state with | .absent => 0 | .present => 1 | .missing => 2) + p.miss),
         BitVec.ofNat 8 (p.lastPresent.toNat / 256), BitVec.ofNat 8 p.lastPresent.toNat]))

/-- READ_EVENT is answered EMPTY on an empty queue, and otherwise DONE with the head record's bytes, which the port latches.
(The mark of the latched record: log 22.) -/
def Obligations.ReadEventLatchesTheHead : Prop :=
  ∀ s : State, s.port.state = .receiving →
    (s.queue.records = [] → exec .readEvent s = .next (s.withAnswer [0x02])) ∧
    (∀ r rest, s.queue.records = r :: rest →
      exec .readEvent s =
        .next { s.withAnswer (0x01 :: r.bytes) with queue := { s.queue with latch := some .intact } })

/-- The 8 bytes of an event record: the kind, the round stamp, and the kind's own fields. -/
def Obligations.EventRecordLayout : Prop :=
  ∀ w : Stamp,
    let hi := BitVec.ofNat 8 (w.toNat / 256)
    let lo := BitVec.ofNat 8 w.toNat
    let bytes := fun e => EventRecord.bytes { stamp := w, event := e }
    (∀ i p st,
      bytes (.touchDown i p st) = [0x01, hi, lo, BitVec.ofNat 8 i, BitVec.ofNat 8 p, BitVec.ofNat 8 (st / 256),
        BitVec.ofNat 8 st, 0] ∧
      bytes (.touchMove i p st) = [0x02, hi, lo, BitVec.ofNat 8 i, BitVec.ofNat 8 p, BitVec.ofNat 8 (st / 256),
        BitVec.ofNat 8 st, 0] ∧
      bytes (.touchUp i p st) = [0x03, hi, lo, BitVec.ofNat 8 i, BitVec.ofNat 8 p, BitVec.ofNat 8 (st / 256),
        BitVec.ofNat 8 st, 0] ∧
      bytes (.touchLost i p st) = [0x04, hi, lo, BitVec.ofNat 8 i, BitVec.ofNat 8 p, BitVec.ofNat 8 (st / 256),
        BitVec.ofNat 8 st, 0]) ∧
    bytes (.netClear .mismatch) = [0x08, hi, lo, 1, 0, 0, 0, 0] ∧
    bytes (.netClear .formation) = [0x08, hi, lo, 2, 0, 0, 0, 0] ∧
    bytes (.netClear .brk) = [0x08, hi, lo, 3, 0, 0, 0, 0] ∧
    bytes (.netClear .conflict) = [0x08, hi, lo, 4, 0, 0, 0, 0] ∧
    bytes (.membership .listen) = [0x09, hi, lo, 1, 0, 0, 0, 0] ∧
    bytes (.membership .member) = [0x09, hi, lo, 2, 0, 0, 0, 0] ∧
    bytes (.membership .conflict) = [0x09, hi, lo, 3, 0, 0, 0, 0] ∧
    (∀ a, bytes (.peerJoin a) = [0x0A, hi, lo, BitVec.ofNat 8 a, 0, 0, 0, 0] ∧
      bytes (.peerLeave a) = [0x0B, hi, lo, BitVec.ofNat 8 a, 0, 0, 0, 0]) ∧
    bytes (.busFault .datStuck) = [0x0C, hi, lo, 1, 0, 0, 0, 0] ∧
    bytes (.busFault .phantom) = [0x0C, hi, lo, 2, 0, 0, 0, 0] ∧
    bytes (.busFault .syncStuck) = [0x0C, hi, lo, 3, 0, 0, 0, 0] ∧
    bytes (.busFault .roundAbandoned) = [0x0C, hi, lo, 4, 0, 0, 0, 0] ∧
    bytes (.busFault .windowAnomaly) = [0x0C, hi, lo, 5, 0, 0, 0, 0] ∧
    (∀ n, bytes (.channel n .calibrated) = [0x0D, hi, lo, BitVec.ofNat 8 n, 1, 0, 0, 0] ∧
      bytes (.channel n .holdLimit) = [0x0D, hi, lo, BitVec.ofNat 8 n, 2, 0, 0, 0] ∧
      bytes (.channel n .blanket) = [0x0D, hi, lo, BitVec.ofNat 8 n, 3, 0, 0, 0]) ∧
    (∀ n, bytes (.overflow n) = [0x0F, hi, lo, BitVec.ofNat 8 n, 0, 0, 0, 0]) ∧
    EventRecord.bytes { stamp := 4, event := .touchDown 9 15 420 } = [0x01, 0x00, 0x04, 0x09, 0x0F, 0x01, 0xA4, 0x00]

/-- READ_CHANNEL: refused in CONFIG, a bad argument at or beyond the channel count, and else the channel's eight bytes. -/
def Obligations.ReadChannelReturnsTheEntry : Prop :=
  ∀ s : State, s.port.state = .receiving →
    (∀ b, s.agreement.membership = .config → exec (.readChannel b) s = .next (s.withAnswer [0x04])) ∧
    (∀ b, s.agreement.membership ≠ .config → (cfgChannelCount s.store.record ≤ b.toNat ∨ 8 ≤ b.toNat) →
      exec (.readChannel b) s = .next (s.withAnswer [0x05])) ∧
    (∀ n : Fin 8, s.agreement.membership ≠ .config → n.val < cfgChannelCount s.store.record →
      let c := s.processor.channels[n]
      exec (.readChannel (BitVec.ofNat 8 n.val)) s = .next (s.withAnswer
        [0x01,
         match c.state with
         | .unused => 0 | .calibrating => 1 | .idle => 2 | .pendingTouch => 3 | .touched => 4 | .pendingRelease => 5,
         BitVec.ofNat 8 ((if c.baseline.isSome then 2 else 0) + (if c.lastResult.isSome then 1 else 0)),
         BitVec.ofNat 8 (c.baseline.getD 0 / 256), BitVec.ofNat 8 (c.baseline.getD 0),
         BitVec.ofNat 8 (c.lastResult.getD 0 / 256), BitVec.ofNat 8 (c.lastResult.getD 0),
         BitVec.ofNat 8 (c.strength / 256), BitVec.ofNat 8 c.strength]))

/-- WRITE_CONFIG replaces the record in CONFIG and is refused elsewhere. -/
def Obligations.WriteConfigReplacesTheRecord : Prop :=
  ∀ (r : ConfigRecord) (s : State), s.port.state = .receiving →
    (s.agreement.membership = .config →
      exec (.writeConfig r) s = .next { s.withAnswer [0x01] with store := { s.store with record := r } }) ∧
    (s.agreement.membership ≠ .config → exec (.writeConfig r) s = .next (s.withAnswer [0x04]))

/-- The fields of the record stand where the layout puts them. -/
def Obligations.RecordFieldsStandInTheLayout : Prop :=
  ∀ r : ConfigRecord,
    let b := recordNat r
    cfgAddress r = b 0 / 4 ∧ cfgLampCode r = b 0 % 4 ∧ cfgChannelCount r = b 1 / 16 ∧ cfgClearPulse r = b 1 % 16 ∧
    (∀ n : Fin 8, descriptorRole (cfgDescriptor r n) = b (2 + n.val) / 64 ∧
      descriptorDrive (cfgDescriptor r n) = b (2 + n.val) / 8 % 8 ∧
      descriptorPlate (cfgDescriptor r n) = b (2 + n.val) % 8) ∧
    cfgWindow r = b 10 ∧ cfgPeriod r = b 11 ∧ cfgTouch r = 16 * b 12 + b 13 / 16 ∧
    cfgRelease r = 256 * (b 13 % 16) + b 14 ∧ cfgDepth r = b 15 / 32 ∧ cfgSuppression r = b 15 / 8 % 4 ∧
    cfgPumpSelect r = b 15 % 8 ∧ cfgDuty r = b 16 / 64 ∧ cfgLiftDelay r = b 16 / 4 % 8 ∧
    cfgHoldLimit r = 256 * (b 16 % 4) + b 17 ∧ cfgCapture r = b 18 / 16 ∧ cfgMinPump r = b 19 / 8 ∧
    lampModeOf 0 = some .off ∧ lampModeOf 1 = some .follow ∧ lampModeOf 2 = some .on ∧ lampModeOf 3 = none

/-- START is refused outside CONFIG, and in CONFIG names the first field that fails; nothing but the port changes. -/
def Obligations.StartNamesTheFirstFailingField : Prop :=
  ∀ s : State, s.port.state = .receiving →
    (s.agreement.membership ≠ .config → exec .start s = .next (s.withAnswer [0x04])) ∧
    (∀ k, s.agreement.membership = .config → FieldFails s.store.record k →
      (∀ j < k, ¬ FieldFails s.store.record j) →
      exec .start s = .next (s.withAnswer [0x05, BitVec.ofNat 8 k]))

/-- START on a record that passes puts every block into service together. The low's own bookkeeping takes the
model's values (log 25). -/
def Obligations.StartPutsTheStationIntoService : Prop :=
  ∀ s : State, s.port.state = .receiving → ConfigInv s → LampInv s → s.agreement.membership = .config →
    (∀ k, ¬ FieldFails s.store.record k) →
    exec .start s = .next { s.withAnswer [0x01] with
      store := { s.store with locked := true }
      bus := { s.bus.settlingFrom with
        stamp := 0, pendingBreak := false, lowTicks := 0, driveBreakSeen := false, stuckReported := false }
      processor := { s.processor with
        channels := Vector.ofFn fun n =>
          if n.val < cfgChannelCount s.store.record then s.processor.channels[n].calibrating
          else s.processor.channels[n]
        blanket := 0
        pendingMask := 0 }
      peers :=
        { entries := Vector.replicate 32 { state := .absent, miss := 0, lastPresent := 0 }
          presence := Vector.replicate 32 none }
      agreement := { membership := .listen, listenRounds := 0, forcing := false, latched := none, part := none, passA := [],
                     passB := [], difference := false }
      queue := { s.queue with records := [{ stamp := 0, event := .membership .listen }] }
      indicator :=
        if cfgLampCode s.store.record = 2 then
          { s.indicator with
            mode := .on, demand := true, phase := .preClear
            clearTimer := some (800 * cfgClearPulse s.store.record) }
        else { s.indicator with mode := if cfgLampCode s.store.record = 1 then .follow else .off } }

/-- RECALIBRATE: refused in CONFIG, a bad argument with a mark beyond the channel count, and else applied at once, or marked
for the end of an operation in flight. -/
def Obligations.RecalibrateNowOrAtTheOperationsEnd : Prop :=
  ∀ (mask : Byte) (s : State), s.port.state = .receiving →
    (s.agreement.membership = .config → exec (.recalibrate mask) s = .next (s.withAnswer [0x04])) ∧
    (s.agreement.membership ≠ .config →
      (∃ n : Fin 8, mask.getLsbD n.val = true ∧ cfgChannelCount s.store.record ≤ n.val) →
      exec (.recalibrate mask) s = .next (s.withAnswer [0x05])) ∧
    (s.agreement.membership ≠ .config →
      (∀ n : Fin 8, mask.getLsbD n.val = true → n.val < cfgChannelCount s.store.record) →
      s.processor.inFlight = none →
      exec (.recalibrate mask) s = .next { s.withAnswer [0x01] with processor := { s.processor with
        channels := Vector.ofFn fun n =>
          if mask.getLsbD n.val then s.processor.channels[n].calibrating else s.processor.channels[n] } }) ∧
    (s.agreement.membership ≠ .config →
      (∀ n : Fin 8, mask.getLsbD n.val = true → n.val < cfgChannelCount s.store.record) →
      s.processor.inFlight.isSome = true →
      exec (.recalibrate mask) s = .next { s.withAnswer [0x01] with processor := { s.processor with
        pendingMask := s.processor.pendingMask ||| mask } })

/-- BREAK_NETWORK is taken or refused by membership and phase. The pull makes a high line fall in the same step
(log 6). -/
def Obligations.BreakNetworkByMembershipAndPhase : Prop :=
  ∀ s : State, s.port.state = .receiving →
    (s.agreement.membership = .config ∨ s.agreement.membership = .conflict →
      exec .breakNetwork s = .next (s.withAnswer [0x04])) ∧
    (s.agreement.membership = .listen ∨ s.agreement.membership = .member →
      (s.bus.pendingBreak = true ∨ s.bus.phase = .breakDrive → exec .breakNetwork s = .next (s.withAnswer [0x03])) ∧
      (s.bus.pendingBreak = false → s.bus.phase = .idle →
        exec .breakNetwork s = .next { s.withAnswer [0x01] with bus := { s.bus with
          phase := .breakDrive
          roundTimer := none
          breakTimer := some 96000
          driveBreakSeen := false
          lineLow := true
          lowTicks := if s.bus.lineLow then s.bus.lowTicks else 0 } }) ∧
      (s.bus.pendingBreak = false → s.bus.phase ≠ .idle → s.bus.phase ≠ .breakDrive →
        exec .breakNetwork s = .next { s.withAnswer [0x01] with bus := { s.bus with pendingBreak := true } }))

/-- SET_LAMP: refused in CONFIG, a bad argument for a byte of 3 or more, nothing for the mode in force, and else the mode is
set and demand is derived from it. What demand is, and what its rise or fall does in each phase of the lamp. (The elapsed
mark and the pump position outside PUMPING: log 27.) -/
def Obligations.SetLampSetsTheMode : Prop :=
  (∀ s : State, s.port.state = .receiving →
     (∀ b, s.agreement.membership = .config → exec (.setLamp b) s = .next (s.withAnswer [0x04])) ∧
     (s.agreement.membership ≠ .config →
       (∀ b, 3 ≤ b.toNat → exec (.setLamp b) s = .next (s.withAnswer [0x05])) ∧
       (∀ b m, (b = 0#8 ∧ m = LampMode.off) ∨ (b = 1#8 ∧ m = LampMode.follow) ∨ (b = 2#8 ∧ m = LampMode.on) →
         (s.indicator.mode = m → exec (.setLamp b) s = .next (s.withAnswer [0x01])) ∧
         (s.indicator.mode ≠ m →
           exec (.setLamp b) s = .next { s.withAnswer [0x01] with
             indicator :=
               let i := { s.indicator with mode := m }
               let d := demandOf s.store.record m s.tracker.touches
               if d = s.indicator.demand then i else i.demandChanges s.store.record d })))) ∧
  ((∀ (r : ConfigRecord) (i : Indicator),
     let pulse := 800 * cfgClearPulse r
     (i.phase = .dark →
       i.demandChanges r true = { i with demand := true, phase := .preClear, clearTimer := some pulse }) ∧
     (∀ d, i.phase = .preClear ∨ i.phase = .postClear → i.demandChanges r d = { i with demand := d }) ∧
     (i.phase = .pumping → i.demandChanges r true = { i with demand := true }) ∧
     (i.phase = .pumping → i.elapsed = false → i.demandChanges r false = { i with demand := false }) ∧
     (i.phase = .pumping → i.elapsed = true →
       i.demandChanges r false = { i with
         demand := false, phase := .postClear, clearTimer := some pulse, minPumpTimer := none, pumpHigh := false
         pumpPos := 0 })) ∧
   (∀ (r : ConfigRecord) (ts : List TouchRecord),
     demandOf r .off ts = false ∧ demandOf r .on ts = true ∧
       (demandOf r .follow ts = true ↔ ∃ t ∈ ts, t.position / 8 = cfgAddress r)))

/-- A byte that names no command is answered BAD_ARGUMENT. MODEL'S CHOICE (log 3, log 20): a row of a port command outside
RECEIVING, an UNKNOWN_COMMAND whose byte names a command, and the event of a timer, a low, a count or a lamp phase that is
not there are no events. -/
def Obligations.UnknownCommandsAndEventsThatCannotOccur : Prop :=
  (∀ (code : Byte) (s : State), s.port.state = .receiving →
    code ∉ [0x00#8, 0x10#8, 0x11#8, 0x12#8, 0x13#8, 0x14#8, 0x20#8, 0x21#8, 0x30#8, 0x31#8, 0x32#8] →
    exec (.unknownCommand code) s = .next (s.withAnswer [0x05])) ∧
  (∀ (code : Byte) (s : State),
    code ∈ [0x00#8, 0x10#8, 0x11#8, 0x12#8, 0x13#8, 0x14#8, 0x20#8, 0x21#8, 0x30#8, 0x31#8, 0x32#8] →
    exec (.unknownCommand code) s = .next s) ∧
  (∀ (c : PortCommand) (s : State), s.port.state ≠ .receiving → exec (rowOf c) s = .next s) ∧
  (∀ s : State,
    (s.bus.phase ≠ .idle ∨ s.bus.roundTimer = none → exec .roundTimerExpiry s = .next s) ∧
    (s.bus.holdTimer = none → exec .windowHoldEnd s = .next s) ∧
    (s.bus.phase ≠ .gap ∨ s.bus.gapTimer = none → exec .gapTimerExpiry s = .next s) ∧
    (s.bus.phase.isSlot = false ∨ s.bus.slotTimer = none → exec .slotIntervalExpiry s = .next s) ∧
    (s.bus.strobeTimer = none → exec .strobeEnd s = .next s) ∧
    (s.bus.phase ≠ .settling ∨ s.bus.settleTimer = none → exec .settlingComplete s = .next s) ∧
    (∀ o, s.bus.phase ≠ .breakDrive ∨ s.bus.breakTimer = none → exec (.commandedBreakEnd o) s = .next s) ∧
    (s.bus.lineLow = false ∨ s.bus.phase.isSlot = false → exec .longLow s = .next s) ∧
    (s.bus.lineLow = false ∨ s.bus.phase = .off ∨ s.bus.phase = .settling ∨ s.bus.phase = .brk ∨
      (s.bus.phase = .breakDrive ∧ s.bus.driveBreakSeen = true) → exec .breakDetected s = .next s) ∧
    (s.bus.lineLow = false ∨ s.bus.phase = .off → exec .syncStuck s = .next s) ∧
    (∀ n k, s.frontEnd.counting = false ∨ cfgChannelCount s.store.record ≤ n.val →
      exec (.oscillatorCycle n k) s = .next s) ∧
    (s.processor.inFlight = none → exec .processingOperation s = .next s) ∧
    (s.indicator.phase ≠ .preClear → exec .preClearEnd s = .next s) ∧
    (s.indicator.phase ≠ .postClear → exec .postClearEnd s = .next s) ∧
    (s.indicator.phase ≠ .pumping ∨ s.indicator.minPumpTimer = none → exec .minimumPumpTimerExpiry s = .next s) ∧
    (s.indicator.phase ≠ .pumping ∨ s.indicator.pumpHigh = false → exec .pumpHighTimeEnd s = .next s) ∧
    (s.indicator.phase ≠ .pumping → exec .pumpPeriodEnd s = .next s))

/-! ## Falls of SYNC -/

/-- A fall in IDLE opens a window: a new round for every block, and the station's own hold of W. -/
def Obligations.FallOpensAWindow : Prop :=
  ∀ s : State, s.bus.lineLow = false → s.bus.phase = .idle →
    exec .syncFall s = .next { s.withoutItems with
      bus := { s.bus with
        phase := .window
        lineLow := true
        lowTicks := 0
        driveBreakSeen := false
        roundTimer := none
        holdTimer := some (80 * cfgWindow s.store.record)
        stamp := s.bus.stamp + 1 }
      contest := Contest.empty
      peers := { s.peers with presence := Vector.replicate 32 none }
      frontEnd := { s.frontEnd with
        counting := true
        counters := Vector.replicate 8 0
        overrange := Vector.replicate 8 false } }

/-- A fall in GAP opens the quiet slot, in which nobody drives. In the presence slots a station in LISTEN or MEMBER drives
the slot of its own address and no other. In a bid slot a bidder that has not lost drives the bit of its bid whose turn it
is. -/
def Obligations.FallOpensASlot : Prop :=
  (∀ s : State, s.bus.lineLow = false → s.bus.phase = .gap →
     exec .syncFall s =
       .next ({ s with bus := { s.bus with phase := .quiet, slotIndex := 0 } }.slotOpened false)) ∧
  (∀ s : State, s.bus.lineLow = false → s.bus.phase = .presence → 1 ≤ s.bus.slotIndex →
     exec .syncFall s = .next (s.slotOpened
       (decide (s.bus.slotIndex = 1 + cfgAddress s.store.record) &&
         (decide (s.agreement.membership = .listen) || decide (s.agreement.membership = .member))))) ∧
  (∀ s : State, s.bus.lineLow = false → s.bus.phase = .bid →
     (∀ b, s.contest.bidding = true → s.contest.lost = false → s.contest.bid = some b →
       exec .syncFall s = .next (s.slotOpened (b.value.testBit (19 - s.bus.bitIndex)))) ∧
     (s.contest.bidding = false ∨ s.contest.lost = true → exec .syncFall s = .next (s.slotOpened false)))

/-- At a claim slot's fall a member bids its strongest candidate, the higher channel at equal strength, and drives the slot;
without a candidate, or without membership, there is no bid and no drive. -/
def Obligations.FallOpensAClaimSlot : Prop :=
  ∀ s : State, s.bus.lineLow = false → s.bus.phase = .claim →
    let candidate := fun n : Fin 8 =>
      (s.processor.channels[n].state = .touched ∨ s.processor.channels[n].state = .pendingRelease) ∧
        s.contest.won[n] = false ∧ s.contest.suppressed[n] = false
    (∀ n : Fin 8, s.agreement.membership = .member → candidate n →
      (∀ m : Fin 8, candidate m → s.processor.channels[m].strength < s.processor.channels[n].strength ∨
        (s.processor.channels[m].strength = s.processor.channels[n].strength ∧ m ≤ n)) →
      exec .syncFall s = .next { s.slotOpened true with contest := { s.contest with
        bidding := true
        bid := some { channel := n, value := 256 * s.processor.channels[n].strength
                                    + 8 * cfgAddress s.store.record + n.val }
        lost := false
        assembly := [] } }) ∧
    ((s.agreement.membership = .member → ∀ n, ¬ candidate n) →
      exec .syncFall s = .next { s.slotOpened false with contest := { s.contest with
        bidding := false
        bid := none
        lost := false
        assembly := [] } })

/-- In the digest slots a member drives its latched digest in pass A and the complement in pass B, and a forcing listener
drives every slot; the first fall latches the digest and the part. -/
def Obligations.FallOpensADigestSlot : Prop :=
  ∀ s : State, s.bus.lineLow = false →
    (s.bus.phase = .digestA → s.bus.bitIndex = 0 →
      exec .syncFall s = .next { s.slotOpened
          (match s.agreement.membership with
          | .member => s.tracker.digest.getMsbD 0
          | .listen => s.agreement.forcing
          | .config | .conflict => false) with
        agreement := { s.agreement with
          latched := some s.tracker.digest
          part := some (match s.agreement.membership with
            | .member => .member
            | .listen => if s.agreement.forcing then .forcing else .listener
            | .config | .conflict => .silent) } }) ∧
    (∀ d : BitVec 16, s.agreement.part = some .member → s.agreement.latched = some d →
      (s.bus.phase = .digestA → s.bus.bitIndex ≠ 0 → exec .syncFall s = .next (s.slotOpened (d.getMsbD s.bus.bitIndex))) ∧
      (s.bus.phase = .digestB → exec .syncFall s = .next (s.slotOpened (!d.getMsbD s.bus.bitIndex)))) ∧
    ((s.bus.phase = .digestA ∧ s.bus.bitIndex ≠ 0) ∨ s.bus.phase = .digestB →
      (s.agreement.part = some .forcing → exec .syncFall s = .next (s.slotOpened true)) ∧
      (s.agreement.part = some .listener ∨ s.agreement.part = some .silent ∨ s.agreement.part = none →
        exec .syncFall s = .next (s.slotOpened false)))

/-- The station's own timers pull SYNC low, and that fall acts as a fall that another station causes. On a line that is low
already the timer only stops. (Log 6.) -/
def Obligations.OwnTimersPullLikeAFall : Prop :=
  ∀ s : State,
    (s.bus.phase = .idle → s.bus.roundTimer.isSome = true →
      (s.bus.lineLow = false → ∃ t, exec .roundTimerExpiry s = .next t ∧ exec .syncFall s = .next t) ∧
      (s.bus.lineLow = true →
        exec .roundTimerExpiry s = .next { s with bus := { s.bus with roundTimer := none } })) ∧
    (s.bus.phase = .gap → s.bus.gapTimer.isSome = true →
      (s.bus.lineLow = false → ∃ t, exec .gapTimerExpiry s = .next t ∧ exec .syncFall s = .next t) ∧
      (s.bus.lineLow = true →
        exec .gapTimerExpiry s = .next { s with bus := { s.bus with gapTimer := none } })) ∧
    (s.bus.phase.isSlot = true → s.bus.slotTimer.isSome = true →
      (s.bus.lineLow = false → ∃ t, exec .slotIntervalExpiry s = .next t ∧ exec .syncFall s = .next t) ∧
      (s.bus.lineLow = true →
        exec .slotIntervalExpiry s = .next { s with bus := { s.bus with slotTimer := none } }))

/-- Where a fall or a rise opens and closes nothing, it changes the line alone, and in SETTLING the wait. (An event that
cannot occur changes nothing: log 3. A rise sets the measured low from its operand, in OFF too, where the rules measure none:
log 5, log 25. A line that moves against the station's own break drive: log 16. A rise in IDLE or GAP: log 23.) -/
def Obligations.LineChangesWithoutARound : Prop :=
  ∀ s : State,
    (s.bus.lineLow = false → s.bus.phase = .off ∨ s.bus.phase = .window ∨ s.bus.phase = .brk ∨ s.bus.phase = .breakDrive →
      exec .syncFall s = .next { s with bus := { s.bus with lineLow := true, lowTicks := 0, driveBreakSeen := false } }) ∧
    (s.bus.lineLow = false → s.bus.phase = .settling →
      exec .syncFall s = .next { s with bus :=
        { s.bus with lineLow := true, lowTicks := 0, driveBreakSeen := false, settleTimer := none } }) ∧
    (s.bus.lineLow = true → exec .syncFall s = .next s) ∧
    (∀ low dat, s.bus.lineLow = true → s.bus.phase = .off →
      exec (.syncRise low dat) s = .next { s with bus := { s.bus with
        lineLow := false, lowTicks := max s.bus.lowTicks low, stuckReported := false, driveBreakSeen := false } }) ∧
    (∀ low dat, s.bus.lineLow = true →
      ((s.bus.phase = .idle ∨ s.bus.phase = .gap ∨ s.bus.phase = .breakDrive) ∧ max s.bus.lowTicks low < 64000) ∨
        (s.bus.phase = .breakDrive ∧ s.bus.driveBreakSeen = true ∧
          (max s.bus.lowTicks low < 400000 ∨ s.bus.stuckReported = true)) →
      exec (.syncRise low dat) s = .next { s with bus := { s.bus with
        lineLow := false, lowTicks := max s.bus.lowTicks low, stuckReported := false, driveBreakSeen := false } }) ∧
    (∀ low dat, s.bus.lineLow = true → s.bus.phase = .settling →
      (max s.bus.lowTicks low < 400000 ∨ s.bus.stuckReported = true) →
      exec (.syncRise low dat) s = .next { s with bus := { s.bus with
        lineLow := false, lowTicks := max s.bus.lowTicks low, stuckReported := false, driveBreakSeen := false
        settleTimer := some 800 } }) ∧
    (∀ low dat, s.bus.lineLow = false → exec (.syncRise low dat) s = .next s)

/-! ## Rises of SYNC -/

/-- The rise closes the window: each configured channel's result goes to the channel processor, and an anomalous window is
reported at most once in 64 rounds. -/
def Obligations.RiseClosesTheWindow : Prop :=
  ∀ (low : Nat) (dat : Bool) (s : State), s.bus.lineLow = true → s.bus.phase = .window → s.processor.inFlight = none →
    max s.bus.lowTicks low < 64000 →
    let len := max s.bus.lowTicks low
    let w := 80 * cfgWindow s.store.record
    let accepted := decide (w ≤ len) && decide (len ≤ 4 * w)
    let reports := !accepted &&
      (s.frontEnd.reportArmed || decide (64 ≤ (s.bus.stamp - s.frontEnd.reportStamp).toNat))
    exec (.syncRise low dat) s = .next { s with
      bus := { s.bus with
        phase := .gap
        lineLow := false
        lowTicks := len
        stuckReported := false
        driveBreakSeen := false
        holdTimer := none
        gapTimer := some 320 }
      frontEnd := { s.frontEnd with
        counting := false
        lastLength := len
        reportStamp := if reports then s.bus.stamp else s.frontEnd.reportStamp
        reportArmed := s.frontEnd.reportArmed && !reports }
      queue :=
        if reports then s.queue.arrive { stamp := s.bus.stamp, event := .busFault .windowAnomaly } else s.queue
      processor := { s.processor with
        inFlight := some
          { stamp := s.bus.stamp
            results := Vector.ofFn fun n =>
              if n.val < cfgChannelCount s.store.record ∧ accepted = true ∧ s.frontEnd.overrange[n] = false then
                some (s.frontEnd.counters[n] * w / len)
              else none }
        operationTimer := some 200 } }

/-- A recessive quiet slot leads to the presence slots, and a dominant one ends the round early. A dominant claim begins a
contest; a recessive one ends the contest phase, and the winner list goes to the tracker. -/
def Obligations.QuietAndClaimSlotsDecideWhatFollows : Prop :=
  (∀ (low : Nat) (s : State), SlotLow low s → s.bus.phase = .quiet →
     let done := s.slotEnded low
     exec (.syncRise low false) s = .next { done with bus := { done.bus with phase := .presence } } ∧
     exec (.syncRise low true) s =
       .next { done.withRecord (.busFault .datStuck) with bus := done.bus.betweenRounds s.store.record }) ∧
  (∀ (low : Nat) (s : State), SlotLow low s → s.bus.phase = .claim →
     let done := s.slotEnded low
     exec (.syncRise low true) s = .next { done with bus :=
       { done.bus with phase := .bid, bitIndex := 0, contestCount := s.bus.contestCount + 1 } } ∧
     exec (.syncRise low false) s = .next { done.withTracking s.afterContests with
       contest := { s.contest with bidding := false, bid := none }
       bus := { done.bus with phase := .digestA, bitIndex := 0, contestCount := s.bus.contestCount + 1 } })

/-- A presence slot updates the entry and the map of its address by the table of R94; the claim slots follow address 31. -/
def Obligations.PresenceSlotUpdatesTheEntry : Prop :=
  ∀ (low : Nat) (dat : Bool) (a : Fin 32) (s : State), SlotLow low s → s.bus.phase = .presence →
    s.bus.slotIndex = 1 + a.val →
    let p := s.peers.entries[a]
    let done := s.slotEnded low
    let becomes := fun (q : PeerEntry) (u : State) => exec (.syncRise low dat) s = .next { u with
      bus := { done.bus with phase := if a.val = 31 then .claim else .presence }
      peers := { entries := s.peers.entries.set a q, presence := s.peers.presence.set a (some dat) } }
    (dat = true → p.state = .absent →
      becomes { state := .present, miss := 0, lastPresent := s.bus.stamp } (done.withRecord (.peerJoin a.val))) ∧
    (dat = false → p.state = .absent → becomes { p with miss := 0 } done) ∧
    (dat = true → p.state = .present → becomes { state := .present, miss := 0, lastPresent := s.bus.stamp } done) ∧
    (dat = false → p.state = .present → becomes { p with state := .missing, miss := 1 } done) ∧
    (dat = false → p.state = .missing → p.miss = 1 → becomes { p with miss := 2 } done) ∧
    (dat = false → p.state = .missing → p.miss = 2 →
      becomes { p with state := .absent, miss := 0 } (done.withRecord (.peerLeave a.val))) ∧
    (dat = true → p.state = .missing → becomes { state := .present, miss := 0, lastPresent := s.bus.stamp } done)

/-- A bid slot before the 20th: the assembly takes the bit, and a bidder that reads another level than it drove has lost. -/
def Obligations.BidSlotIsReadBack : Prop :=
  ∀ (low : Nat) (dat : Bool) (s : State), SlotLow low s → s.bus.phase = .bid → s.bus.bitIndex < 19 →
    let done := s.slotEnded low
    exec (.syncRise low dat) s = .next { done with
      contest := { s.contest with
        assembly := s.contest.assembly ++ [dat]
        lost := s.contest.lost || (s.contest.bidding && dat != s.bus.datDrive) }
      bus := { done.bus with bitIndex := s.bus.bitIndex + 1 } }

/-- The 20th bid slot decodes the winner. A phantom ends the contest phase of a fault round; a winner with the station's own
address that is not its bid takes it into CONFLICT, after a clear; any other winner is accepted, marks the channel that won,
and suppresses the station's channels near it. An address without a value in the presence map is not recessive (DEDUCED,
log 15). -/
def Obligations.TwentiethBidSlotDecidesTheWinner : Prop :=
  ∀ (low : Nat) (dat : Bool) (s : State), SlotLow low s → s.bus.phase = .bid → s.bus.bitIndex = 19 →
    s.contest.assembly.length = 19 →
    let bits := s.contest.assembly ++ [dat]
    let c := { s.contest with
      assembly := bits
      lost := s.contest.lost || (s.contest.bidding && dat != s.bus.datDrive) }
    let strength := natOfBits bits / 256
    let position := natOfBits bits % 256
    let address := position / 8
    let winner : Winner := { strength := strength, position := position }
    let done := s.slotEnded low
    let phantom := s.peers.presence[address]? = some (some false) ∨
      ∃ x ∈ s.contest.winners, 256 * x.strength + x.position ≤ natOfBits bits ∨ x.position = position
    let own := c.bidding = true ∧ c.lost = false
    let conflict := (s.agreement.membership = .listen ∨ s.agreement.membership = .member) ∧
      address = cfgAddress s.store.record ∧ ¬ own
    let digests := { done.bus with phase := .digestA, bitIndex := 0 }
    let claims := { done.bus with phase := .claim, bitIndex := 0 }
    let taken := { c with
      winners := s.contest.winners ++ [winner]
      won := Vector.ofFn fun n =>
        s.contest.won[n] || (c.bidding && !c.lost && decide (∃ b, c.bid = some b ∧ b.channel = n))
      suppressed := Vector.ofFn fun n =>
        s.contest.suppressed[n] ||
          (decide (n.val < cfgChannelCount s.store.record) &&
            decide (((8 * cfgAddress s.store.record + n.val : Int) - position).natAbs ≤ cfgSuppression s.store.record)) }
    (phantom →
      exec (.syncRise low dat) s = .next { done.withRecord (.busFault .phantom) with
        contest := { c with faultMark := true }
        bus := digests }) ∧
    (¬ phantom → conflict →
      exec (.syncRise low dat) s =
        .next { ((done.withTracking (s.clearTouches .conflict)).withRecord (.membership .conflict)).withMembership
            .conflict with
          contest := { c with winners := s.contest.winners ++ [winner] }
          bus := { (if s.bus.contestCount < 4 then claims else digests) with pendingBreak := false } }) ∧
    (¬ phantom → ¬ conflict → s.bus.contestCount < 4 →
      exec (.syncRise low dat) s = .next { done with contest := taken, bus := claims }) ∧
    (¬ phantom → ¬ conflict → ¬ s.bus.contestCount < 4 →
      exec (.syncRise low dat) s =
        .next { done.withTracking { s with contest := taken }.afterContests with contest := taken, bus := digests })

/-- A digest slot before the last of the round: the pass value takes the bit, and a driver that reads another level than it
drove sets its difference mark. -/
def Obligations.DigestSlotIsRecorded : Prop :=
  ∀ (low : Nat) (dat : Bool) (s : State), SlotLow low s →
    let done := s.slotEnded low
    let driver := decide (s.agreement.part = some .member) || decide (s.agreement.part = some .forcing)
    let a := { s.agreement with difference := s.agreement.difference || (driver && dat != s.bus.datDrive) }
    (s.bus.phase = .digestA → s.bus.bitIndex < 15 →
      exec (.syncRise low dat) s = .next { done with
        agreement := { a with passA := s.agreement.passA ++ [dat] }
        bus := { done.bus with bitIndex := s.bus.bitIndex + 1 } }) ∧
    (s.bus.phase = .digestA → s.bus.bitIndex = 15 →
      exec (.syncRise low dat) s = .next { done with
        agreement := { a with passA := s.agreement.passA ++ [dat] }
        bus := { done.bus with phase := .digestB, bitIndex := 0 } }) ∧
    (s.bus.phase = .digestB → s.bus.bitIndex < 15 →
      exec (.syncRise low dat) s = .next { done with
        agreement := { a with passB := s.agreement.passB ++ [dat] }
        bus := { done.bus with bitIndex := s.bus.bitIndex + 1 } })

/-- The outcome of a round at its last digest slot, for a member, a listener and a station in CONFLICT; the round ends. An
adoption sets the next id to the high byte that was read, leaves the list as it is, and derives demand again. A clear round
leaves the counter 0 and the flag clear (log 18). -/
def Obligations.LastDigestSlotTakesTheOutcome : Prop :=
  ∀ (low : Nat) (dat : Bool) (s : State), SlotLow low s → s.bus.phase = .digestB → s.bus.bitIndex = 15 →
    let driver := decide (s.agreement.part = some .member) || decide (s.agreement.part = some .forcing)
    let a := { s.agreement with
      passB := s.agreement.passB ++ [dat]
      difference := s.agreement.difference || (driver && dat != s.bus.datDrive) }
    let done := { s.slotEnded low with agreement := a, bus := (s.slotEnded low).bus.betweenRounds s.store.record }
    let passA := natOfBits a.passA
    let passB := natOfBits a.passB
    let listening := s.agreement.part = some .listener ∨ s.agreement.part = some .forcing
    let demand := demandOf s.store.record s.indicator.mode s.tracker.touches
    let adopted := { done with
      tracker := { s.tracker with nextId := passA / 256 }
      indicator :=
        if demand = s.indicator.demand then s.indicator else s.indicator.demandChanges s.store.record demand }
    a.passA.length = 16 → a.passB.length = 16 →
    (s.agreement.part = some .member → a.difference = false → exec (.syncRise low dat) s = .next done) ∧
    (s.agreement.part = some .member → a.difference = true →
      exec (.syncRise low dat) s = .next { done.withTracking (s.clearTouches .mismatch) with
        agreement := { a with listenRounds := 0, forcing := false } }) ∧
    (listening → passA + passB = 65535 → passA % 256 = 0 → passA ≠ 0 →
      exec (.syncRise low dat) s =
        .next ((adopted.withRecord (.membership .member)).withMembership .member)) ∧
    (listening → passA + passB = 65535 → (passA % 256 ≠ 0 ∨ passA = 0) →
      exec (.syncRise low dat) s = .next { done with agreement :=
        if s.contest.faultMark = false ∧ a.listenRounds < 64 then
          { a with listenRounds := a.listenRounds + 1, forcing := a.forcing || decide (a.listenRounds = 63) }
        else a }) ∧
    (listening → passA + passB ≠ 65535 →
      exec (.syncRise low dat) s =
        .next (((done.withTracking (s.clearTouches .formation)).withRecord (.membership .member)).withMembership
          .member)) ∧
    (s.agreement.part = some .silent ∨ s.agreement.part = none → exec (.syncRise low dat) s = .next done)

/-! ## Lows that last -/

/-- A low of 20 µs in a slot abandons the round and becomes a window from its fall; the count begun at the fall is kept. The
command raises the measured low to 20 µs (log 4). -/
def Obligations.LongLowAbandonsTheRound : Prop :=
  ∀ s : State, s.bus.lineLow = true → s.bus.phase.isSlot = true →
    exec .longLow s = .next { (s.withRecord (.busFault .roundAbandoned)).withoutItems with
      contest := Contest.empty
      peers := { s.peers with presence := Vector.replicate 32 none }
      bus := { s.bus with
        phase := .window
        slotIndex := 0
        contestCount := 0
        bitIndex := 0
        slotTimer := none
        strobeTimer := none
        lowTicks := max s.bus.lowTicks 160
        holdTimer := some (80 * cfgWindow s.store.record - max s.bus.lowTicks 160)
        stamp := s.bus.stamp + 1
        datDrive := false } }

/-- At 8 ms of low a break is detected: the round is dropped, a member clears, and the station enters BREAK or stays in
BREAK_DRIVE. In IDLE and GAP too (DEDUCED, log 23), and in a slot phase without an abandonment (MODEL'S CHOICE, log 26); the
command raises the measured low to 8 ms (log 4), and the discarded counts stay as they are until the next count (DEDUCED,
log 17). -/
def Obligations.BreakIsDetected : Prop :=
  ∀ s : State, s.bus.lineLow = true → s.bus.phase ≠ .off → s.bus.phase ≠ .settling → s.bus.phase ≠ .brk →
    (s.bus.phase = .breakDrive → s.bus.driveBreakSeen = false) →
    let u := if s.agreement.membership = .member then s.clearTouches .brk else s
    exec .breakDetected s = .next { (s.withTracking u).withoutItems with
      contest := Contest.empty
      frontEnd := { s.frontEnd with counting := false }
      bus := { s.bus with
        phase := if s.bus.phase = .breakDrive then .breakDrive else .brk
        driveBreakSeen := decide (s.bus.phase = .breakDrive)
        slotIndex := 0
        contestCount := 0
        bitIndex := 0
        lowTicks := max s.bus.lowTicks 64000
        roundTimer := none
        holdTimer := none
        gapTimer := none
        slotTimer := none
        strobeTimer := none
        datDrive := false } }

/-- The end of a break, at the rise in BREAK or at the release of the station's own drive: SETTLING, and a listener becomes
a member after a clear. Where another station still holds SYNC the drive leads to BREAK. (The operand: log 7; the counter
and the flag in every membership: log 18. COMMANDED_BREAK_END raises the measured low to 12 ms: log 4. A rise's operand sets
it: log 5.) -/
def Obligations.BreakEndsInSettling : Prop :=
  ∀ s : State, s.bus.lineLow = true →
    let ended := fun (n : Nat) =>
      let t := { s with bus := { s.bus.settlingFrom with
        lineLow := false, lowTicks := max s.bus.lowTicks n, stuckReported := false, driveBreakSeen := false
        settleTimer := some 800 } }.withoutItems
      if s.agreement.membership = .listen then
        ((t.withTracking (s.clearTouches .brk)).withRecord (.membership .member)).withMembership .member
      else t.withMembership s.agreement.membership
    (∀ low dat, s.bus.phase = .brk → (max s.bus.lowTicks low < 400000 ∨ s.bus.stuckReported = true) →
      exec (.syncRise low dat) s = .next (ended low)) ∧
    (s.bus.phase = .breakDrive → s.bus.breakTimer.isSome = true → s.bus.driveBreakSeen = true →
      (max s.bus.lowTicks 96000 < 400000 ∨ s.bus.stuckReported = true) →
      exec (.commandedBreakEnd false) s = .next (ended 96000) ∧
      exec (.commandedBreakEnd true) s = .next { s with bus := { s.bus with
        phase := .brk
        lowTicks := max s.bus.lowTicks 96000
        breakTimer := none
        strobeTimer := none
        driveBreakSeen := false } })

/-- MODEL'S CHOICE (log 5). A command that reports a longer low takes the limits that are shorter first, where they have not
been taken: the long low of a slot, the break, and the stuck report. (The end of a commanded break raises the low to 12 ms,
log 4, also a low that began anew during the drive, log 16.) -/
def Obligations.ShorterLimitsAreTakenFirst : Prop :=
  ∀ s : State, s.bus.lineLow = true →
    let first := fun (limit c : Instr) =>
      ∃ t u, exec limit s = .next t ∧ exec c t = .next u ∧ exec c s = .next u
    let breakToCome := s.bus.phase = .window ∨ s.bus.phase = .idle ∨ s.bus.phase = .gap ∨
      (s.bus.phase = .breakDrive ∧ s.bus.driveBreakSeen = false)
    (∀ low dat, s.bus.phase.isSlot = true → 160 ≤ max s.bus.lowTicks low → first .longLow (.syncRise low dat)) ∧
    (∀ low dat, breakToCome → 64000 ≤ max s.bus.lowTicks low → first .breakDetected (.syncRise low dat)) ∧
    (∀ low dat, s.bus.phase ≠ .off → 400000 ≤ max s.bus.lowTicks low → first .syncStuck (.syncRise low dat)) ∧
    (s.bus.phase.isSlot = true → first .longLow .syncStuck) ∧
    (breakToCome → first .breakDetected .syncStuck) ∧
    (∀ o, s.bus.phase = .breakDrive → s.bus.breakTimer.isSome = true → s.bus.driveBreakSeen = false →
      first .breakDetected (.commandedBreakEnd o)) ∧
    (∀ o, s.bus.phase = .breakDrive → s.bus.breakTimer.isSome = true → 400000 ≤ s.bus.lowTicks →
      first .syncStuck (.commandedBreakEnd o))

/-- A low of 50 ms is reported once, in SETTLING and in BREAK as well. The window hold and the strobe end with the release
of SYNC, and SETTLING ends in IDLE or in the pending break. (SYNC_STUCK raises the measured low to 50 ms and WINDOW_HOLD_END
raises it to W, log 4.) -/
def Obligations.StuckReportHoldEndsAndSettling : Prop :=
  (∀ s : State, s.bus.lineLow = true →
     s.bus.phase = .settling ∨ s.bus.phase = .brk ∨ (s.bus.phase = .breakDrive ∧ s.bus.driveBreakSeen = true) →
     (s.bus.stuckReported = false →
       exec .syncStuck s = .next { s.withRecord (.busFault .syncStuck) with
         bus := { s.bus with lowTicks := max s.bus.lowTicks 400000, stuckReported := true } }) ∧
     (s.bus.stuckReported = true →
       exec .syncStuck s = .next { s with bus := { s.bus with lowTicks := max s.bus.lowTicks 400000 } })) ∧
  (∀ s : State,
     (s.bus.holdTimer.isSome = true →
       exec .windowHoldEnd s = .next { s with bus := { s.bus with
         holdTimer := none, lowTicks := max s.bus.lowTicks (80 * cfgWindow s.store.record) } }) ∧
     (s.bus.strobeTimer.isSome = true →
       exec .strobeEnd s = .next { s with bus := { s.bus with strobeTimer := none } }) ∧
     (s.bus.phase = .settling → s.bus.settleTimer.isSome = true →
       exec .settlingComplete s = .next { s with bus := s.bus.betweenRounds s.store.record }))

/-! ## The front end and the channel processor -/

/-- A counter stops at 65535, and a cycle beyond it sets the overrange mark, which makes the channel's result invalid. The
drive pins of configured channels oscillate while a count runs, and no sense pin does otherwise. (Several cycles in one
command: log 13.) -/
def Obligations.CounterStopsAtItsRange : Prop :=
  ∀ (n : Fin 8) (s : State), s.frontEnd.counting = true → n.val < cfgChannelCount s.store.record →
    (s.frontEnd.counters[n] < 65535 →
      exec (.oscillatorCycle n 1) s = .next { s with frontEnd := { s.frontEnd with
        counters := s.frontEnd.counters.set n (s.frontEnd.counters[n] + 1) } }) ∧
    (s.frontEnd.counters[n] = 65535 →
      exec (.oscillatorCycle n 1) s = .next { s with frontEnd := { s.frontEnd with
        overrange := s.frontEnd.overrange.set n true } }) ∧
    (∀ k, s.frontEnd.counters[n] ≤ 65535 →
      ∃ t, exec (.oscillatorCycle n k) s = .next t ∧ exec (.oscillatorCycle n (k + 1)) s = exec (.oscillatorCycle n 1) t) ∧
    (∀ w t count, windowResult w t count true = none) ∧
    (∀ p : Fin 8, s.sensePin p = .oscillating ↔
      ∃ m : Fin 8, m.val < cfgChannelCount s.store.record ∧
        descriptorDrive (cfgDescriptor s.store.record m) = p.val) ∧
    (∀ (p : Fin 8) (u : State), u.frontEnd.counting = false → u.sensePin p = .heldLow)

/-- The processing operation in flight completes: the channels of the pending mask enter CALIBRATING after it, and its
records carry its window's stamp. (The stamp is DEDUCED, log 9.) -/
def Obligations.ProcessingOperationCompletes : Prop :=
  ∀ (h : HandOff) (s : State), s.processor.inFlight = some h →
    let r := s.processor.operate s.store.record h
    exec .processingOperation s = .next { s with
      processor := { r.1 with
        channels := Vector.ofFn fun n =>
          if s.processor.pendingMask.getLsbD n.val then r.1.channels[n].calibrating else r.1.channels[n]
        pendingMask := 0
        inFlight := none
        operationTimer := none }
      queue := r.2.foldl (fun q e => q.arrive { stamp := h.stamp, event := e }) s.queue }

/-- The operation updates each configured channel from its own result, and the blanket counter sends all of them to
calibrate at 64 windows in which every one of them is held. Its records are those of the configured channels in channel
order, followed by CHANNEL(BLANKET) exactly there. -/
def Obligations.OperationUpdatesChannelsAndBlanket : Prop :=
  ∀ (r : ConfigRecord) (h : HandOff) (p : Processor),
    let configured := fun n : Fin 8 => n.val < cfgChannelCount r
    let updated := fun n : Fin 8 =>
      if n.val < cfgChannelCount r then (updateChannel r n h.results[n] p.channels[n]).1 else p.channels[n]
    let invalid := ∃ n, configured n ∧ h.results[n] = none
    let held := ∀ n, configured n → (updated n).state = .touched
    let records := (List.finRange 8).filterMap fun n =>
      if n.val < cfgChannelCount r then (updateChannel r n h.results[n] p.channels[n]).2 else none
    (cfgChannelCount r < 2 ∨ invalid → p.blanket < 64 →
      (p.operate r h).1.blanket = p.blanket ∧ (p.operate r h).2 = records ∧
        ∀ n : Fin 8, (p.operate r h).1.channels[n] = updated n) ∧
    (2 ≤ cfgChannelCount r → ¬ invalid → ¬ held →
      (p.operate r h).1.blanket = 0 ∧ (p.operate r h).2 = records ∧
        ∀ n : Fin 8, (p.operate r h).1.channels[n] = updated n) ∧
    (2 ≤ cfgChannelCount r → ¬ invalid → held → p.blanket < 63 →
      (p.operate r h).1.blanket = p.blanket + 1 ∧ (p.operate r h).2 = records ∧
        ∀ n : Fin 8, (p.operate r h).1.channels[n] = updated n) ∧
    (2 ≤ cfgChannelCount r → ¬ invalid → held → p.blanket = 63 →
      (p.operate r h).1.blanket = 0 ∧ (p.operate r h).2 = records ++ [Event.channel 0 .blanket] ∧
        ∀ n : Fin 8, (p.operate r h).1.channels[n] =
          if n.val < cfgChannelCount r then (updated n).calibrating else p.channels[n])

/-- One channel's update: an invalid result is only noted, four valid samples calibrate, and a channel with a baseline is
filtered, followed and limited. -/
def Obligations.ChannelUpdateByState : Prop :=
  ∀ (r : ConfigRecord) (n : Fin 8) (c : ChannelEntry),
    updateChannel r n none c = ({ c with lastResult := none }, none) ∧
    (∀ v, c.state = .calibrating → c.calCount < 3 →
      updateChannel r n (some v) c =
        ({ c with lastResult := some v, calSum := c.calSum + v, calCount := c.calCount + 1 }, none)) ∧
    (∀ v, c.state = .calibrating → c.calCount = 3 →
      updateChannel r n (some v) c =
        ({ state := .idle, baseline := some ((c.calSum + v) / 4), calSum := 0, calCount := 0, lastResult := some v,
           delta := 0, strength := 0, filter := 0, hold := 0, reverse := 0 }, some (.channel n.val .calibrated))) ∧
    (∀ v base : Nat, c.state = .idle ∨ c.state = .pendingTouch ∨ c.state = .touched ∨ c.state = .pendingRelease →
      c.baseline = some base →
      let delta : Int := if descriptorRole (cfgDescriptor r n) = 0 then (base : Int) - v else (v : Int) - base
      let f := filterStep (cfgTouch r) (cfgRelease r) (cfgDepth r) c.state c.filter delta
      let b := followBaseline (cfgTouch r) (cfgDepth r) c.state base c.reverse v delta
      let isHeld := f.1 = .touched ∨ f.1 = .pendingRelease
      let hold := if cfgHoldLimit r = 0 then c.hold else if isHeld then c.hold + 1 else 0
      let d := { c with
        state := f.1
        baseline := some b.1
        lastResult := some v
        delta := delta
        strength := min 4095 delta.toNat
        filter := f.2
        hold := hold
        reverse := b.2 }
      updateChannel r n (some v) c =
        if cfgHoldLimit r ≠ 0 ∧ isHeld ∧ cfgHoldLimit r < hold then (d.calibrating, some (.channel n.val .holdLimit))
        else (d, none))

/-- The filter's table. The baseline follows the sample in IDLE while the delta is small, recovers after enough reverse
samples, and stands still otherwise. -/
def Obligations.FilterAndBaselineFollowTheirTables : Prop :=
  (∀ (th rel depth counter : Nat) (delta : Int),
     (delta < th → filterStep th rel depth .idle counter delta = (.idle, 0)) ∧
     (th ≤ delta → depth = 1 → filterStep th rel depth .idle counter delta = (.touched, 0)) ∧
     (th ≤ delta → 1 < depth → filterStep th rel depth .idle counter delta = (.pendingTouch, 1)) ∧
     (th ≤ delta → counter + 1 < depth →
       filterStep th rel depth .pendingTouch counter delta = (.pendingTouch, counter + 1)) ∧
     (th ≤ delta → counter + 1 = depth → filterStep th rel depth .pendingTouch counter delta = (.touched, 0)) ∧
     (delta < th → filterStep th rel depth .pendingTouch counter delta = (.idle, 0)) ∧
     (rel ≤ delta → filterStep th rel depth .touched counter delta = (.touched, 0)) ∧
     (delta < rel → depth = 1 → filterStep th rel depth .touched counter delta = (.idle, 0)) ∧
     (delta < rel → 1 < depth → filterStep th rel depth .touched counter delta = (.pendingRelease, 1)) ∧
     (delta < rel → counter + 1 < depth →
       filterStep th rel depth .pendingRelease counter delta = (.pendingRelease, counter + 1)) ∧
     (delta < rel → counter + 1 = depth → filterStep th rel depth .pendingRelease counter delta = (.idle, 0)) ∧
     (rel ≤ delta → filterStep th rel depth .pendingRelease counter delta = (.touched, 0))) ∧
  (∀ (th depth : Nat) (st : ChannelState) (base reverse v : Nat) (delta : Int), 0 < th →
     let diff := ((v : Int) - base).natAbs
     let move := if diff / 16 = 0 then 1 else diff / 16
     (st = .idle → -(th : Int) < delta → delta < th →
       (v = base → followBaseline th depth st base reverse v delta = (base, 0)) ∧
       (base < v → followBaseline th depth st base reverse v delta = (base + move, 0) ∧ base + move ≤ v) ∧
       (v < base → followBaseline th depth st base reverse v delta = (base - move, 0) ∧ v ≤ base - move)) ∧
     (st = .idle → delta ≤ -(th : Int) → reverse + 1 < depth →
       followBaseline th depth st base reverse v delta = (base, reverse + 1)) ∧
     (st = .idle → delta ≤ -(th : Int) → depth ≤ reverse + 1 →
       followBaseline th depth st base reverse v delta = (v, 0)) ∧
     (st = .idle → (th : Int) ≤ delta → followBaseline th depth st base reverse v delta = (base, 0)) ∧
     (st ≠ .idle → followBaseline th depth st base reverse v delta = (base, reverse)))

/-! ## The indicator -/

/-- The lamp's timers: the pre-clear pulse leads to pumping or to dark, the minimum pump time answers a fall of demand, and
the post-clear pulse leads to dark or straight to another pre-clear pulse. The pump goes low after the high time and high
again after the period, with the table's times. (The elapsed mark and the pump position outside PUMPING: log 27; the levels
at the pins where no tick passes: log 28.) -/
def Obligations.LampTimersAndPumpEdges : Prop :=
  (∀ s : State,
     let i := s.indicator
     let pulse := 800 * cfgClearPulse s.store.record
     let least := 80000 * cfgMinPump s.store.record
     (i.phase = .preClear → i.demand = true →
       exec .preClearEnd s = .next { s with indicator := { i with
         phase := .pumping
         clearTimer := none
         minPumpTimer := if least = 0 then none else some least
         elapsed := decide (least = 0)
         pumpHigh := true
         pumpPos := 0 } }) ∧
     (i.phase = .preClear → i.demand = false →
       exec .preClearEnd s = .next { s with indicator := { i with phase := .dark, clearTimer := none } }) ∧
     (i.phase = .pumping → i.minPumpTimer.isSome = true → i.demand = true →
       exec .minimumPumpTimerExpiry s = .next { s with indicator := { i with minPumpTimer := none, elapsed := true } }) ∧
     (i.phase = .pumping → i.minPumpTimer.isSome = true → i.demand = false →
       exec .minimumPumpTimerExpiry s = .next { s with indicator := { i with
         phase := .postClear
         clearTimer := some pulse
         minPumpTimer := none
         elapsed := true
         pumpHigh := false
         pumpPos := 0 } }) ∧
     (i.phase = .postClear → i.demand = true →
       exec .postClearEnd s = .next { s with indicator := { i with phase := .preClear, clearTimer := some pulse } }) ∧
     (i.phase = .postClear → i.demand = false →
       exec .postClearEnd s = .next { s with indicator := { i with phase := .dark, clearTimer := none } })) ∧
  (∀ s : State, (s.clearPin = true ↔ s.indicator.phase = .preClear ∨ s.indicator.phase = .postClear) ∧
     (s.indicator.phase ≠ .pumping → s.pumpPin = false)) ∧
  ((∀ s : State, s.indicator.phase = .pumping →
     (s.indicator.pumpHigh = true →
       exec .pumpHighTimeEnd s = .next { s with indicator := { s.indicator with
         pumpHigh := false, pumpPos := max s.indicator.pumpPos (pumpHighTicks s.store.record) } }) ∧
     exec .pumpPeriodEnd s = .next { s with indicator := { s.indicator with pumpHigh := true, pumpPos := 0 } } ∧
     s.pumpPin = s.indicator.pumpHigh) ∧
   (∀ r : ConfigRecord, cfgPumpSelect r ≤ 5 →
     (cfgPumpSelect r, cfgDuty r, pumpPeriod r, pumpHighTicks r) ∈
       [(0, 0, 8000, 2000), (0, 1, 8000, 2666), (0, 2, 8000, 4000), (0, 3, 8000, 6000),
        (1, 0, 4000, 1000), (1, 1, 4000, 1333), (1, 2, 4000, 2000), (1, 3, 4000, 3000),
        (2, 0, 2000, 500), (2, 1, 2000, 666), (2, 2, 2000, 1000), (2, 3, 2000, 1500),
        (3, 0, 1000, 250), (3, 1, 1000, 333), (3, 2, 1000, 500), (3, 3, 1000, 750),
        (4, 0, 500, 125), (4, 1, 500, 166), (4, 2, 500, 250), (4, 3, 500, 375),
        (5, 0, 250, 62), (5, 1, 250, 83), (5, 2, 250, 125), (5, 3, 250, 187)]))

/-! ## The event queue and the tracker -/

/-- What an arriving record does: a TOUCH_MOVE coalesces into one held for its id, or supersedes it after the touch's end;
any other is appended below 16 records, and else discarded and counted. ATTN is low exactly while a record is held. (The
mark of a latched head: log 22.) -/
def Obligations.RecordArrivesAtTheQueue : Prop :=
  ∀ (w : Stamp) (q : EventQueue),
    (∀ e, (∀ id p st, e = .touchMove id p st →
        ∀ x ∈ q.records, ∀ p' st', x.event ≠ .touchMove id p' st') →
      (q.records.length < 16 →
        q.arrive { stamp := w, event := e } = { q with records := q.records ++ [{ stamp := w, event := e }] }) ∧
      (16 ≤ q.records.length →
        q.arrive { stamp := w, event := e } = { q with lost := min 255 (q.lost + 1) })) ∧
    (∀ id p st p' st' w' (before after : List EventRecord),
      q.records = before ++ { stamp := w', event := .touchMove id p' st' } :: after →
      (∀ x ∈ before, ∀ a b, x.event ≠ .touchMove id a b) →
      let ended := ∃ x ∈ after, ∃ a b, x.event = .touchUp id a b ∨ x.event = .touchLost id a b
      let new : EventRecord := { stamp := w, event := .touchMove id p st }
      (¬ ended → q.arrive new =
        { q with
          records := before ++ new :: after
          latch := if before = [] ∧ q.latch = some .intact then some .changed else q.latch }) ∧
      (ended → q.arrive new =
        { q with
          records := before ++ after ++ [new]
          latch := if before = [] ∧ q.latch ≠ none then some .gone else q.latch })) ∧
    ∀ s : State, s.attnLow = true ↔ s.queue.records ≠ []

/-- A clear reports every touch as lost, oldest first, then the clear with its cause; the list is empty, the next id is 1
and the digest 0100h. Demand is derived again, and nothing else changes. -/
def Obligations.ClearReportsEveryTouchAsLost : Prop :=
  ∀ (c : ClearCause) (s : State),
    let records := (s.tracker.touches.map fun t => Event.touchLost t.id t.position t.strength) ++ [Event.netClear c]
    let d := demandOf s.store.record s.indicator.mode []
    s.clearTouches c = { s with
      tracker := { touches := [], nextId := 1 }
      queue := records.foldl (fun q e => q.arrive { stamp := s.bus.stamp, event := e }) s.queue
      indicator := if d = s.indicator.demand then s.indicator else s.indicator.demandChanges s.store.record d } ∧
    (s.clearTouches c).tracker.digest = 0x0100

/-- After a creation the next id is the first value after the id just given, 255 followed by 1, that no record holds. -/
def Obligations.NextIdIsTheFirstFreeValue : Prop :=
  (∀ (t : Tracker) (es : List Event) (w : Winner), t.touches.length < 4 → 1 ≤ t.nextId → t.nextId ≤ 255 →
     let u := (createTouch (t, es) w).1
     let after := fun k : Nat => (t.nextId + k) % 255 + 1
     (∃ r ∈ u.touches, r.id = t.nextId) ∧
       ∃ k < 4, u.nextId = after k ∧ (∀ r ∈ u.touches, r.id ≠ after k) ∧ ∀ j < k, ∃ r ∈ u.touches, r.id = after j) ∧
  (∀ (a b : TouchRecord) (es : List Event) (w : Winner), a.id = 3 → b.id = 4 →
     (createTouch ({ touches := [a, b], nextId := 2 }, es) w).1.nextId = 5 ∧
       (createTouch ({ touches := [a, b], nextId := 255 }, es) w).1.nextId = 1)

/-- The checksum is the sum of the records' terms modulo 256, and the digest has the next id above it. -/
def Obligations.ChecksumAndDigestOfTheList : Prop :=
  (∀ t : Tracker, t.checksum =
    (t.touches.zipIdx.map fun x => x.1.id + x.1.position + x.1.miss + 37 * (x.2 + 1)).sum % 256) ∧
  (∀ t : Tracker, t.nextId ≤ 255 → t.digest.toNat = 256 * t.nextId + t.checksum) ∧
  (∀ n, ({ touches := [], nextId := n } : Tracker).checksum = 0) ∧
  (∀ n st, ({ touches := [{ id := 1, position := 42, strength := st, miss := 0 }], nextId := n } : Tracker).checksum
    = 0x50) ∧
  (∀ n st, ({ touches := [{ id := 200, position := 19, strength := st, miss := 0 }], nextId := n } : Tracker).checksum
    = 0) ∧
  (∀ st, ({ touches := [{ id := 1, position := 42, strength := st, miss := 0 }], nextId := 2 } : Tracker).digest
    = 0x0250) ∧
  ({ touches := [], nextId := 1 } : Tracker).digest = 0x0100

/-- The match stage: a winner takes the nearest record not yet matched within the capture radius, the oldest at equal
distance, and is left unmatched where there is none. An unmatched winner takes a free place and the next id, or is dropped.
The step: the winners match in list order, the unmatched records age, the unmatched winners create touches, and the records
stand in the order of these stages. It is applied with the station's own radius and lift delay; demand is derived again. -/
def Obligations.TrackingStagesMatchAgeAndCreate : Prop :=
  (∀ (radius : Nat) (w : Winner) (m : MatchWork),
     let gap := fun c : Candidate => ((c.touch.position : Int) - w.position).natAbs
     (∀ i c, m.candidates[i]? = some c → c.matched = false → gap c ≤ radius →
       (∀ j d, m.candidates[j]? = some d → d.matched = false → gap c < gap d ∨ (gap c = gap d ∧ i ≤ j)) →
       matchWinner radius m w =
         { candidates := m.candidates.set i
             { touch := { c.touch with position := w.position, strength := w.strength, miss := 0 }, matched := true }
           unmatched := m.unmatched
           events :=
             if c.touch.position = w.position then m.events
             else m.events ++ [.touchMove c.touch.id w.position w.strength] }) ∧
     ((∀ c ∈ m.candidates, c.matched = true ∨ radius < gap c) →
       matchWinner radius m w = { m with unmatched := m.unmatched ++ [w] })) ∧
  (∀ (t : Tracker) (es : List Event) (w : Winner),
     (t.touches.length < 4 →
       let ts := t.touches ++ [{ id := t.nextId, position := w.position, strength := w.strength, miss := 0 }]
       createTouch (t, es) w =
         ({ touches := ts, nextId := freeIdFrom ts.length (idAfter t.nextId) ts },
           es ++ [.touchDown t.nextId w.position w.strength])) ∧
     (4 ≤ t.touches.length → createTouch (t, es) w = (t, es))) ∧
  (∀ (radius lift : Nat) (ws : List Winner) (t : Tracker),
     let m := ws.foldl (matchWinner radius)
       { candidates := t.touches.map fun r => { touch := r, matched := false }, unmatched := [], events := [] }
     let stays := fun c : Candidate => c.matched || decide (c.touch.miss + 1 ≤ lift)
     let aged : Tracker :=
       { touches := (m.candidates.filter stays).map fun c =>
           if c.matched then c.touch else { c.touch with miss := c.touch.miss + 1 }
         nextId := t.nextId }
     let ups := (m.candidates.filter fun c => !stays c).map fun c =>
       Event.touchUp c.touch.id c.touch.position c.touch.strength
     trackingStep radius lift ws t = m.unmatched.foldl createTouch (aged, m.events ++ ups)) ∧
  (∀ (radius lift : Nat) (t : Tracker),
     trackingStep radius lift [] t =
       ({ t with touches := (t.touches.filter fun r => decide (r.miss + 1 ≤ lift)).map fun r =>
           { r with miss := r.miss + 1 } },
         (t.touches.filter fun r => decide (lift < r.miss + 1)).map fun r => .touchUp r.id r.position r.strength)) ∧
  (∀ (ws : List Winner) (s : State),
     let u := trackingStep (cfgCapture s.store.record) (cfgLiftDelay s.store.record) ws s.tracker
     let d := demandOf s.store.record s.indicator.mode u.1.touches
     s.track ws = { s with
       tracker := u.1
       queue := u.2.foldl (fun q e => q.arrive { stamp := s.bus.stamp, event := e }) s.queue
       indicator := if d = s.indicator.demand then s.indicator else s.indicator.demandChanges s.store.record d })

/-! ## Several stations on one line -/

/-- Where some of the stations on a line bid distinct values in a contest, after the 20 bid slots every station, bidding or not,
has assembled the highest value, and of the bidders exactly the one that bid it has not lost. (Several stations' units side
by side: log 14.) -/
def Obligations.ContestFindsTheHighestBid : Prop :=
  ∀ cs : List Contest,
    let bids := cs.filterMap fun c => if c.bidding then c.bid else none
    (∀ c ∈ cs, c.lost = false ∧ c.assembly = [] ∧ (c.bidding = true → c.bid.isSome = true)) →
    bids ≠ [] → (∀ b ∈ bids, b.value < 2 ^ 20) → (bids.map Bid.value).Nodup →
    let ended := (List.range 20).foldl (fun us i => bidSlot i us) cs
    ∃ best ∈ bids, (∀ b ∈ bids, b.value ≤ best.value) ∧
      ended.map (fun c => (c.bidding, c.bid)) = cs.map (fun c => (c.bidding, c.bid)) ∧
      ∀ c ∈ ended, c.assembly.length = 20 ∧ natOfBits c.assembly = best.value ∧
        (c.bidding = true → (c.lost = false ↔ c.bid = some best))

/-- In the digest passes every station reads the OR of the digests driven in pass A, and in pass B the complement of their
AND. A driver finds a difference exactly where two values were driven, and the reading agrees exactly where one was. A
forcing listener makes both passes read FFFFh, in which every member finds a difference. (Several stations' units side by
side: log 14.) -/
def Obligations.DigestPassesShowEveryDisagreement : Prop :=
  ∀ units : List Agreement,
    (∀ a ∈ units, (a.part = some .member → a.latched.isSome = true) ∧ a.difference = false ∧ a.passA = [] ∧ a.passB = []) →
    let digests := units.filterMap fun a => if a.part = some .member then a.latched else none
    ((∀ a ∈ units, a.part ≠ some .forcing) →
      ∀ a ∈ digestPasses units,
        passValue a.passA = digests.foldl (· ||| ·) 0 ∧
        passValue a.passB = (digests.map fun d => ~~~ d).foldl (· ||| ·) 0 ∧
        passValue a.passB = ~~~ digests.foldl (· &&& ·) (BitVec.allOnes 16) ∧
        (a.part = some .member → (a.difference = true ↔ ∃ d ∈ digests, ∃ e ∈ digests, d ≠ e)) ∧
        (a.agrees = true ↔ digests ≠ [] ∧ ∀ d ∈ digests, ∀ e ∈ digests, d = e)) ∧
    ((∃ a ∈ units, a.part = some .forcing) →
      ∀ a ∈ digestPasses units,
        passValue a.passA = 0xFFFF ∧ passValue a.passB = 0xFFFF ∧ a.agrees = false ∧
        (a.part = some .member → a.difference = true) ∧ (a.part = some .forcing → a.difference = false))

/-! ## What every step keeps -/

/-- Every step keeps the event queue as its rules say. -/
def Obligations.EveryStepKeepsTheEventQueue : Prop :=
  ∀ s t : State, QueueInv s → step s = .next t → QueueInv t

/-- Every step keeps the shared state of the surface: CONFIG and what hangs on it, the parts in the passes, the winner list
and the touch list. -/
def Obligations.EveryStepKeepsTheSurfaceState : Prop :=
  ∀ s t : State, SurfaceInv s → step s = .next t → SurfaceInv t

/-- Every step keeps the drives of the two bus lines within their rules. -/
def Obligations.EveryStepKeepsTheLineDrives : Prop :=
  ∀ s t : State, SurfaceInv s → DatInv s → SyncInv s → step s = .next t → DatInv t ∧ SyncInv t

/-- Every step keeps demand derived and the lamp's timers with its phase. -/
def Obligations.EveryStepKeepsTheLamp : Prop :=
  ∀ s t : State, ConfigInv s → LampInv s → step s = .next t → LampInv t

/-- Every step keeps every item of the channel table, the blanket counter, the results in flight and the front end within their
ranges. -/
def Obligations.EveryStepKeepsTheChannelRanges : Prop :=
  ∀ s t : State, ConfigInv s → ChannelInv s → FrontEndInv s → step s = .next t → ChannelInv t ∧ FrontEndInv t

/-- The state after reset meets every invariant. -/
def Obligations.ResetStateMeetsEveryInvariant : Prop :=
  QueueInv State.reset ∧ SurfaceInv State.reset ∧ DatInv State.reset ∧ SyncInv State.reset ∧ LampInv State.reset ∧
    ChannelInv State.reset ∧ FrontEndInv State.reset

/-- While the store is locked no command but RESET changes the record or the lock. -/
def Obligations.LockedRecordStaysAsItIs : Prop :=
  ∀ (c : Instr) (s t : State), ConfigInv s → s.store.locked = true → c ≠ .reset → exec c s = .next t → t.store = s.store
end

