-- ==== Sys2Proof/Laws/Bits.lean ====
section
/-! SUPPORT. Bits, bytes and numbers: what the bit order and the arithmetic over it come to. -/

namespace Sys2Proof

theorem foldl_bits (l : List Bool) (n : Nat) :
    l.foldl (fun n b => 2 * n + b.toNat) n = n * 2 ^ l.length + natOfBits l := by
  induction l generalizing n with
  | nil => simp [natOfBits]
  | cons b l ih =>
    simp only [List.foldl_cons, natOfBits, List.length_cons]
    rw [ih, ih (2 * 0 + b.toNat), pow_succ]
    ring

/-- The first bit carries the greatest weight. -/
theorem natOfBits_cons (b : Bool) (l : List Bool) :
    natOfBits (b :: l) = b.toNat * 2 ^ l.length + natOfBits l := by
  rw [show natOfBits (b :: l) = l.foldl (fun n b => 2 * n + b.toNat) (2 * 0 + b.toNat) from rfl, foldl_bits]
  simp

/-- A bit that comes last carries the weight 1. -/
theorem natOfBits_append (l : List Bool) (b : Bool) : natOfBits (l ++ [b]) = 2 * natOfBits l + b.toNat := by
  simp [natOfBits, List.foldl_append]

theorem natOfBits_lt (l : List Bool) : natOfBits l < 2 ^ l.length := by
  induction l with
  | nil => simp [natOfBits]
  | cons b l ih =>
    rw [natOfBits_cons, List.length_cons, pow_succ]
    cases b <;> simp <;> omega

theorem length_bitsOfBytes (bs : List Byte) : (bitsOfBytes bs).length = 8 * bs.length := by
  induction bs with
  | nil => rfl
  | cons b bs ih =>
    rw [List.length_cons, show bitsOfBytes (b :: bs) = bitsOfByte b ++ bitsOfBytes bs from rfl, List.length_append, ih]
    simp only [bitsOfByte, List.length_cons, List.length_nil]
    omega

/-- The eight bits of a byte, shifted in, are that byte. -/
theorem byteOfBits_bitsOfByte (b : Byte) : byteOfBits (bitsOfByte b) = b := by
  revert b
  decide

namespace Machine

/-- A pass value of 16 bits is the number its bits spell. -/
theorem toNat_passValue (l : List Bool) (h : l.length = 16) : (passValue l).toNat = natOfBits l := by
  have := natOfBits_lt l
  rw [h] at this
  simp only [passValue, BitVec.toNat_ofNat]
  omega

/-- The readings agree where the two passes add up to FFFFh. -/
theorem Agreement.agrees_iff (a : Agreement) (ha : a.passA.length = 16) (hb : a.passB.length = 16) :
    a.agrees = true ↔ natOfBits a.passA + natOfBits a.passB = 65535 := by
  have h1 := toNat_passValue _ ha
  have h2 := toNat_passValue _ hb
  have l1 := natOfBits_lt a.passA
  have l2 := natOfBits_lt a.passB
  rw [ha] at l1
  rw [hb] at l2
  simp only [Agreement.agrees, beq_iff_eq]
  rw [← BitVec.toNat_inj, BitVec.toNat_not, h1, h2]
  omega

/-- The pass A value can be adopted where it has a high byte and no low byte. -/
theorem Agreement.adoptable_iff (a : Agreement) (ha : a.passA.length = 16) :
    a.adoptable = true ↔ natOfBits a.passA % 256 = 0 ∧ natOfBits a.passA ≠ 0 := by
  have h1 := toNat_passValue _ ha
  simp only [Agreement.adoptable, Agreement.readId, h1, Bool.and_eq_true, beq_iff_eq, bne_iff_ne, ne_eq]
  omega

theorem distance_eq_natAbs (a b : Nat) : distance a b = ((a : Int) - b).natAbs := by
  unfold distance
  split <;> omega

/-- An assembly of 20 bits spells strength above position. -/
theorem winnerOf_eq (l : List Bool) (h : l.length = 20) :
    winnerOf l = { strength := natOfBits l / 256, position := natOfBits l % 256 } := by
  have := natOfBits_lt l
  rw [h] at this
  simp only [winnerOf]
  rw [Nat.mod_eq_of_lt this]

/-- The won mark goes to the channel of a bid that has not lost. -/
theorem Contest.markWon_eq (c : Contest) :
    c.markWon = Vector.ofFn fun n =>
      c.won[n] || (c.bidding && !c.lost && decide (∃ b, c.bid = some b ∧ b.channel = n)) := by
  obtain ⟨ws, won, sup, bidding, bid, lost, asm, fm⟩ := c
  ext i hi
  cases bid with
  | none => simp [Contest.markWon]
  | some b =>
    cases bidding <;> cases lost <;> simp [Contest.markWon, Contest.inContest, Vector.getElem_set]
    by_cases e : b.channel.val = i
    · subst e
      simp
    · have : ¬ b.channel = ⟨i, hi⟩ := fun h => e (by rw [h])
      simp [e, this]

end Machine

end Sys2Proof
end

