-- ==== Sys2Proof/Laws/Channels.lean ====
section
/-! SUPPORT. What one update of a channel keeps: the ranges of R116, where the filter depth is one that START accepts. -/

namespace Sys2Proof.Machine

theorem filterStep_counter_le (touch release depth : Nat) (st : ChannelState) (k : Nat) (delta : Int) (hd : depth ≤ 4)
    (hk : k ≤ 3) : (filterStep touch release depth st k delta).2 ≤ 3 := by
  unfold filterStep
  cases st <;> (repeat' split) <;> simp <;> omega

/-- The filter leads neither to UNUSED nor to CALIBRATING. -/
theorem filterStep_keeps_baseline (touch release depth : Nat) (st : ChannelState) (k : Nat) (delta : Int)
    (h : st ≠ .unused ∧ st ≠ .calibrating) :
    (filterStep touch release depth st k delta).1 ≠ .unused ∧
      (filterStep touch release depth st k delta).1 ≠ .calibrating := by
  unfold filterStep
  cases st <;> simp at h <;> (repeat' split) <;> simp

theorem followBaseline_le (touch depth : Nat) (st : ChannelState) (base k v : Nat) (delta : Int) (hd : depth ≤ 4)
    (hb : base ≤ 65535) (hv : v ≤ 65535) (hk : k ≤ 4) :
    (followBaseline touch depth st base k v delta).1 ≤ 65535 ∧ (followBaseline touch depth st base k v delta).2 ≤ 4 := by
  have tracked : trackBaseline base v ≤ 65535 := by
    unfold trackBaseline
    dsimp only
    repeat' split
    all_goals omega
  unfold followBaseline
  repeat' split
  all_goals try dsimp only
  all_goals omega

/-- A channel that has just entered CALIBRATING is within its ranges. -/
theorem ChannelOk.enterCalibrating (c : ChannelEntry) (h : ∀ v, c.lastResult = some v → v ≤ 65535) :
    ChannelOk c.enterCalibrating := by
  constructor <;> simp [ChannelEntry.enterCalibrating, ChannelEntry.reset]
  exact h

/-- A valid sample keeps a channel that has a baseline within its ranges, where the hold limit is not exceeded after it. -/
theorem ChannelOk.filterSample (r : ConfigRecord) (n : Fin 8) (v : Nat) (c : ChannelEntry) (hd : cfgDepth r ≤ 4)
    (hl : cfgHoldLimit r ≤ 1023) (hv : v ≤ 65535) (hc : ChannelOk c) (hs : c.state ≠ .unused ∧ c.state ≠ .calibrating)
    (ho : (c.filterSample r n v).overHeld (cfgHoldLimit r) = false) : ChannelOk (c.filterSample r n v) := by
  obtain ⟨b, hb⟩ := Option.isSome_iff_exists.mp (hc.baseline_iff.mpr hs)
  have hbl := hc.baseline_le b hb
  have follow := followBaseline_le (cfgTouch r) (cfgDepth r) c.state b c.reverse v
    (deltaOf (descriptorRole (cfgDescriptor r n)) b v) hd hbl hv hc.reverse_le
  constructor
  · simpa [ChannelEntry.filterSample] using filterStep_keeps_baseline (cfgTouch r) (cfgRelease r) (cfgDepth r) c.state
      c.filter (deltaOf (descriptorRole (cfgDescriptor r n)) (c.baseline.getD 0) v) hs
  · intro x hx
    simp [ChannelEntry.filterSample, hb] at hx
    rw [← hx]
    exact follow.1
  · exact hc.calibration_le
  · exact hc.sum_le
  · intro w hw
    simp [ChannelEntry.filterSample] at hw
    omega
  · simp [ChannelEntry.filterSample, hb, deltaOf]
    split <;> omega
  · simp [ChannelEntry.filterSample, strengthOf]
  · exact filterStep_counter_le _ _ _ _ _ _ hd hc.filter_le
  · have before := hc.hold_le
    simp [ChannelEntry.overHeld, ChannelEntry.filterSample, holdStep, ChannelEntry.eligible] at ho ⊢
    split
    · omega
    · split
      · rename_i h1 h2
        have limit := ho h1 h2
        simp [h1, h2] at limit
        omega
      · omega
  · simp [ChannelEntry.filterSample, hb]
    exact follow.2

/-- One update keeps a channel within its ranges. -/
theorem ChannelOk.updateChannel (r : ConfigRecord) (n : Fin 8) (result : Option Nat) (c : ChannelEntry)
    (hd : cfgDepth r ≤ 4) (hl : cfgHoldLimit r ≤ 1023) (hr : ∀ v, result = some v → v ≤ 65535) (hc : ChannelOk c) :
    ChannelOk (Machine.updateChannel r n result c).1 := by
  unfold Machine.updateChannel
  split
  · exact { hc with result_le := by simp }
  · exact hc
  · rename_i v hs
    have hv := hr v rfl
    have sum := hc.sum_le
    have count := hc.calibration_le
    unfold ChannelEntry.calibrate
    dsimp only
    split
    · exact
        { hc with
          result_le := by simpa using hv
          calibration_le := by
            dsimp only
            omega
          sum_le := by
            dsimp only
            omega }
    · constructor <;> simp [ChannelEntry.reset] <;> omega
  all_goals
    rename_i v hs
    have hv := hr v rfl
    dsimp only
    split
    · apply ChannelOk.enterCalibrating
      intro w hw
      simp [ChannelEntry.filterSample] at hw
      omega
    · rename_i ho
      exact hc.filterSample r n v c hd hl hv ⟨by simp [hs], by simp [hs]⟩ (by simpa using ho)

end Sys2Proof.Machine
end

