-- ==== Sys2Proof/Laws/State.lean ====
section
/-! SUPPORT. What each named update of the state leaves alone, one lemma for each field. -/

namespace Sys2Proof.Machine

/-! ## A record queued at a stamp -/

@[simp] theorem State.bus_queueAt (w : Stamp) (e : Event) (s : State) : (s.queueAt w e).bus = s.bus := rfl

@[simp] theorem State.contest_queueAt (w : Stamp) (e : Event) (s : State) : (s.queueAt w e).contest = s.contest := rfl

@[simp] theorem State.tracker_queueAt (w : Stamp) (e : Event) (s : State) : (s.queueAt w e).tracker = s.tracker := rfl

@[simp] theorem State.agreement_queueAt (w : Stamp) (e : Event) (s : State) : (s.queueAt w e).agreement = s.agreement := rfl

@[simp] theorem State.peers_queueAt (w : Stamp) (e : Event) (s : State) : (s.queueAt w e).peers = s.peers := rfl

@[simp] theorem State.frontEnd_queueAt (w : Stamp) (e : Event) (s : State) : (s.queueAt w e).frontEnd = s.frontEnd := rfl

@[simp] theorem State.processor_queueAt (w : Stamp) (e : Event) (s : State) : (s.queueAt w e).processor = s.processor := rfl

@[simp] theorem State.store_queueAt (w : Stamp) (e : Event) (s : State) : (s.queueAt w e).store = s.store := rfl

@[simp] theorem State.port_queueAt (w : Stamp) (e : Event) (s : State) : (s.queueAt w e).port = s.port := rfl

@[simp] theorem State.indicator_queueAt (w : Stamp) (e : Event) (s : State) : (s.queueAt w e).indicator = s.indicator := rfl

@[simp] theorem State.inReset_queueAt (w : Stamp) (e : Event) (s : State) : (s.queueAt w e).inReset = s.inReset := rfl

@[simp] theorem State.pending_queueAt (w : Stamp) (e : Event) (s : State) : (s.queueAt w e).pending = s.pending := rfl

@[simp] theorem State.freeCount_queueAt (w : Stamp) (e : Event) (s : State) : (s.queueAt w e).freeCount = s.freeCount := rfl

@[simp] theorem State.queue_queueAt (w : Stamp) (e : Event) (s : State) :
    (s.queueAt w e).queue = s.queue.arrive { stamp := w, event := e } := rfl

/-! ## A record queued -/

@[simp] theorem State.bus_record (e : Event) (s : State) : (s.record e).bus = s.bus := rfl

@[simp] theorem State.contest_record (e : Event) (s : State) : (s.record e).contest = s.contest := rfl

@[simp] theorem State.tracker_record (e : Event) (s : State) : (s.record e).tracker = s.tracker := rfl

@[simp] theorem State.agreement_record (e : Event) (s : State) : (s.record e).agreement = s.agreement := rfl

@[simp] theorem State.peers_record (e : Event) (s : State) : (s.record e).peers = s.peers := rfl

@[simp] theorem State.frontEnd_record (e : Event) (s : State) : (s.record e).frontEnd = s.frontEnd := rfl

@[simp] theorem State.processor_record (e : Event) (s : State) : (s.record e).processor = s.processor := rfl

@[simp] theorem State.store_record (e : Event) (s : State) : (s.record e).store = s.store := rfl

@[simp] theorem State.port_record (e : Event) (s : State) : (s.record e).port = s.port := rfl

@[simp] theorem State.indicator_record (e : Event) (s : State) : (s.record e).indicator = s.indicator := rfl

@[simp] theorem State.inReset_record (e : Event) (s : State) : (s.record e).inReset = s.inReset := rfl

@[simp] theorem State.pending_record (e : Event) (s : State) : (s.record e).pending = s.pending := rfl

@[simp] theorem State.freeCount_record (e : Event) (s : State) : (s.record e).freeCount = s.freeCount := rfl

@[simp] theorem State.queue_record (e : Event) (s : State) :
    (s.record e).queue = s.queue.arrive { stamp := s.bus.stamp, event := e } := rfl

/-! ## Several records queued -/

/-- Queuing records changes the queue alone: they arrive one after another with the present stamp. -/
theorem State.recordAll_eq (es : List Event) (s : State) :
    s.recordAll es =
      { s with queue := es.foldl (fun q e => q.arrive { stamp := s.bus.stamp, event := e }) s.queue } := by
  induction es generalizing s with
  | nil => rfl
  | cons e es ih => exact ih (s.record e)

@[simp] theorem State.bus_recordAll (es : List Event) (s : State) : (s.recordAll es).bus = s.bus := by
  rw [State.recordAll_eq]

@[simp] theorem State.contest_recordAll (es : List Event) (s : State) : (s.recordAll es).contest = s.contest := by
  rw [State.recordAll_eq]

@[simp] theorem State.tracker_recordAll (es : List Event) (s : State) : (s.recordAll es).tracker = s.tracker := by
  rw [State.recordAll_eq]

@[simp] theorem State.agreement_recordAll (es : List Event) (s : State) : (s.recordAll es).agreement = s.agreement := by
  rw [State.recordAll_eq]

@[simp] theorem State.peers_recordAll (es : List Event) (s : State) : (s.recordAll es).peers = s.peers := by
  rw [State.recordAll_eq]

@[simp] theorem State.frontEnd_recordAll (es : List Event) (s : State) : (s.recordAll es).frontEnd = s.frontEnd := by
  rw [State.recordAll_eq]

@[simp] theorem State.processor_recordAll (es : List Event) (s : State) : (s.recordAll es).processor = s.processor := by
  rw [State.recordAll_eq]

@[simp] theorem State.store_recordAll (es : List Event) (s : State) : (s.recordAll es).store = s.store := by
  rw [State.recordAll_eq]

@[simp] theorem State.port_recordAll (es : List Event) (s : State) : (s.recordAll es).port = s.port := by
  rw [State.recordAll_eq]

@[simp] theorem State.indicator_recordAll (es : List Event) (s : State) : (s.recordAll es).indicator = s.indicator := by
  rw [State.recordAll_eq]

@[simp] theorem State.inReset_recordAll (es : List Event) (s : State) : (s.recordAll es).inReset = s.inReset := by
  rw [State.recordAll_eq]

@[simp] theorem State.pending_recordAll (es : List Event) (s : State) : (s.recordAll es).pending = s.pending := by
  rw [State.recordAll_eq]

@[simp] theorem State.freeCount_recordAll (es : List Event) (s : State) : (s.recordAll es).freeCount = s.freeCount := by
  rw [State.recordAll_eq]

@[simp] theorem State.queue_recordAll (es : List Event) (s : State) :
    (s.recordAll es).queue =
      es.foldl (fun q e => q.arrive { stamp := s.bus.stamp, event := e }) s.queue := by
  rw [State.recordAll_eq]

/-! ## Records of an operation, queued at its stamp -/

theorem State.foldl_queueAt_eq (w : Stamp) (es : List Event) (s : State) :
    es.foldl (fun t e => t.queueAt w e) s =
      { s with queue := es.foldl (fun q e => q.arrive { stamp := w, event := e }) s.queue } := by
  induction es generalizing s with
  | nil => rfl
  | cons e es ih => exact ih (s.queueAt w e)

/-! ## The port's answer -/

@[simp] theorem State.bus_answer (st : Status) (bs : List Byte) (s : State) : (s.answer st bs).bus = s.bus := rfl

@[simp] theorem State.contest_answer (st : Status) (bs : List Byte) (s : State) : (s.answer st bs).contest = s.contest := rfl

@[simp] theorem State.tracker_answer (st : Status) (bs : List Byte) (s : State) : (s.answer st bs).tracker = s.tracker := rfl

@[simp] theorem State.agreement_answer (st : Status) (bs : List Byte) (s : State) : (s.answer st bs).agreement = s.agreement := rfl

@[simp] theorem State.peers_answer (st : Status) (bs : List Byte) (s : State) : (s.answer st bs).peers = s.peers := rfl

@[simp] theorem State.frontEnd_answer (st : Status) (bs : List Byte) (s : State) : (s.answer st bs).frontEnd = s.frontEnd := rfl

@[simp] theorem State.processor_answer (st : Status) (bs : List Byte) (s : State) : (s.answer st bs).processor = s.processor := rfl

@[simp] theorem State.store_answer (st : Status) (bs : List Byte) (s : State) : (s.answer st bs).store = s.store := rfl

@[simp] theorem State.queue_answer (st : Status) (bs : List Byte) (s : State) : (s.answer st bs).queue = s.queue := rfl

@[simp] theorem State.indicator_answer (st : Status) (bs : List Byte) (s : State) : (s.answer st bs).indicator = s.indicator := rfl

@[simp] theorem State.inReset_answer (st : Status) (bs : List Byte) (s : State) : (s.answer st bs).inReset = s.inReset := rfl

@[simp] theorem State.pending_answer (st : Status) (bs : List Byte) (s : State) : (s.answer st bs).pending = s.pending := rfl

@[simp] theorem State.freeCount_answer (st : Status) (bs : List Byte) (s : State) : (s.answer st bs).freeCount = s.freeCount := rfl

@[simp] theorem State.port_answer (st : Status) (bs : List Byte) (s : State) :
    (s.answer st bs).port =
      { s.port with state := .sending, rxBits := [], rxBytes := [], tx := st.code :: bs, sent := 0 } := rfl

/-! ## Demand derived again -/

/-- Deriving demand changes the indicator alone. -/
theorem State.deriveDemand_eq (s : State) :
    s.deriveDemand = { s with
      indicator :=
        let d := demandOf s.store.record s.indicator.mode s.tracker.touches
        if d = s.indicator.demand then s.indicator else s.indicator.demandChanges s.store.record d } := by
  unfold State.deriveDemand
  dsimp only
  split <;> rfl

@[simp] theorem State.bus_deriveDemand (s : State) : s.deriveDemand.bus = s.bus := by
  rw [State.deriveDemand_eq]

@[simp] theorem State.contest_deriveDemand (s : State) : s.deriveDemand.contest = s.contest := by
  rw [State.deriveDemand_eq]

@[simp] theorem State.tracker_deriveDemand (s : State) : s.deriveDemand.tracker = s.tracker := by
  rw [State.deriveDemand_eq]

@[simp] theorem State.agreement_deriveDemand (s : State) : s.deriveDemand.agreement = s.agreement := by
  rw [State.deriveDemand_eq]

@[simp] theorem State.peers_deriveDemand (s : State) : s.deriveDemand.peers = s.peers := by
  rw [State.deriveDemand_eq]

@[simp] theorem State.frontEnd_deriveDemand (s : State) : s.deriveDemand.frontEnd = s.frontEnd := by
  rw [State.deriveDemand_eq]

@[simp] theorem State.processor_deriveDemand (s : State) : s.deriveDemand.processor = s.processor := by
  rw [State.deriveDemand_eq]

@[simp] theorem State.store_deriveDemand (s : State) : s.deriveDemand.store = s.store := by
  rw [State.deriveDemand_eq]

@[simp] theorem State.port_deriveDemand (s : State) : s.deriveDemand.port = s.port := by
  rw [State.deriveDemand_eq]

@[simp] theorem State.queue_deriveDemand (s : State) : s.deriveDemand.queue = s.queue := by
  rw [State.deriveDemand_eq]

@[simp] theorem State.inReset_deriveDemand (s : State) : s.deriveDemand.inReset = s.inReset := by
  rw [State.deriveDemand_eq]

@[simp] theorem State.pending_deriveDemand (s : State) : s.deriveDemand.pending = s.pending := by
  rw [State.deriveDemand_eq]

@[simp] theorem State.freeCount_deriveDemand (s : State) : s.deriveDemand.freeCount = s.freeCount := by
  rw [State.deriveDemand_eq]

/-! ## The mode set -/

@[simp] theorem State.bus_setMode (m : LampMode) (s : State) : (s.setMode m).bus = s.bus := by
  simp [State.setMode]

@[simp] theorem State.contest_setMode (m : LampMode) (s : State) : (s.setMode m).contest = s.contest := by
  simp [State.setMode]

@[simp] theorem State.tracker_setMode (m : LampMode) (s : State) : (s.setMode m).tracker = s.tracker := by
  simp [State.setMode]

@[simp] theorem State.agreement_setMode (m : LampMode) (s : State) : (s.setMode m).agreement = s.agreement := by
  simp [State.setMode]

@[simp] theorem State.peers_setMode (m : LampMode) (s : State) : (s.setMode m).peers = s.peers := by
  simp [State.setMode]

@[simp] theorem State.frontEnd_setMode (m : LampMode) (s : State) : (s.setMode m).frontEnd = s.frontEnd := by
  simp [State.setMode]

@[simp] theorem State.processor_setMode (m : LampMode) (s : State) : (s.setMode m).processor = s.processor := by
  simp [State.setMode]

@[simp] theorem State.store_setMode (m : LampMode) (s : State) : (s.setMode m).store = s.store := by
  simp [State.setMode]

@[simp] theorem State.port_setMode (m : LampMode) (s : State) : (s.setMode m).port = s.port := by
  simp [State.setMode]

@[simp] theorem State.queue_setMode (m : LampMode) (s : State) : (s.setMode m).queue = s.queue := by
  simp [State.setMode]

@[simp] theorem State.inReset_setMode (m : LampMode) (s : State) : (s.setMode m).inReset = s.inReset := by
  simp [State.setMode]

@[simp] theorem State.pending_setMode (m : LampMode) (s : State) : (s.setMode m).pending = s.pending := by
  simp [State.setMode]

@[simp] theorem State.freeCount_setMode (m : LampMode) (s : State) : (s.setMode m).freeCount = s.freeCount := by
  simp [State.setMode]

/-! ## Adoption -/

@[simp] theorem State.bus_adopt (id : Nat) (s : State) : (s.adopt id).bus = s.bus := by
  simp [State.adopt]

@[simp] theorem State.contest_adopt (id : Nat) (s : State) : (s.adopt id).contest = s.contest := by
  simp [State.adopt]

@[simp] theorem State.agreement_adopt (id : Nat) (s : State) : (s.adopt id).agreement = s.agreement := by
  simp [State.adopt]

@[simp] theorem State.peers_adopt (id : Nat) (s : State) : (s.adopt id).peers = s.peers := by
  simp [State.adopt]

@[simp] theorem State.frontEnd_adopt (id : Nat) (s : State) : (s.adopt id).frontEnd = s.frontEnd := by
  simp [State.adopt]

@[simp] theorem State.processor_adopt (id : Nat) (s : State) : (s.adopt id).processor = s.processor := by
  simp [State.adopt]

@[simp] theorem State.store_adopt (id : Nat) (s : State) : (s.adopt id).store = s.store := by
  simp [State.adopt]

@[simp] theorem State.port_adopt (id : Nat) (s : State) : (s.adopt id).port = s.port := by
  simp [State.adopt]

@[simp] theorem State.queue_adopt (id : Nat) (s : State) : (s.adopt id).queue = s.queue := by
  simp [State.adopt]

@[simp] theorem State.inReset_adopt (id : Nat) (s : State) : (s.adopt id).inReset = s.inReset := by
  simp [State.adopt]

@[simp] theorem State.pending_adopt (id : Nat) (s : State) : (s.adopt id).pending = s.pending := by
  simp [State.adopt]

@[simp] theorem State.freeCount_adopt (id : Nat) (s : State) : (s.adopt id).freeCount = s.freeCount := by
  simp [State.adopt]

@[simp] theorem State.tracker_adopt (id : Nat) (s : State) :
    (s.adopt id).tracker = { s.tracker with nextId := id } := by
  simp [State.adopt]

/-! ## A clear -/

@[simp] theorem State.bus_clearTouches (c : ClearCause) (s : State) : (s.clearTouches c).bus = s.bus := by
  simp [State.clearTouches]

@[simp] theorem State.contest_clearTouches (c : ClearCause) (s : State) : (s.clearTouches c).contest = s.contest := by
  simp [State.clearTouches]

@[simp] theorem State.agreement_clearTouches (c : ClearCause) (s : State) : (s.clearTouches c).agreement = s.agreement := by
  simp [State.clearTouches]

@[simp] theorem State.peers_clearTouches (c : ClearCause) (s : State) : (s.clearTouches c).peers = s.peers := by
  simp [State.clearTouches]

@[simp] theorem State.frontEnd_clearTouches (c : ClearCause) (s : State) : (s.clearTouches c).frontEnd = s.frontEnd := by
  simp [State.clearTouches]

@[simp] theorem State.processor_clearTouches (c : ClearCause) (s : State) : (s.clearTouches c).processor = s.processor := by
  simp [State.clearTouches]

@[simp] theorem State.store_clearTouches (c : ClearCause) (s : State) : (s.clearTouches c).store = s.store := by
  simp [State.clearTouches]

@[simp] theorem State.port_clearTouches (c : ClearCause) (s : State) : (s.clearTouches c).port = s.port := by
  simp [State.clearTouches]

@[simp] theorem State.inReset_clearTouches (c : ClearCause) (s : State) : (s.clearTouches c).inReset = s.inReset := by
  simp [State.clearTouches]

@[simp] theorem State.pending_clearTouches (c : ClearCause) (s : State) : (s.clearTouches c).pending = s.pending := by
  simp [State.clearTouches]

@[simp] theorem State.freeCount_clearTouches (c : ClearCause) (s : State) : (s.clearTouches c).freeCount = s.freeCount := by
  simp [State.clearTouches]

@[simp] theorem State.tracker_clearTouches (c : ClearCause) (s : State) :
    (s.clearTouches c).tracker = Tracker.reset := by
  simp [State.clearTouches]

@[simp] theorem State.queue_clearTouches (c : ClearCause) (s : State) :
    (s.clearTouches c).queue =
      ((s.tracker.touches.map fun t => Event.touchLost t.id t.position t.strength) ++ [Event.netClear c]).foldl
        (fun q e => q.arrive { stamp := s.bus.stamp, event := e }) s.queue := by
  simp [State.clearTouches]

/-! ## The tracking step applied -/

@[simp] theorem State.bus_track (ws : List Winner) (s : State) : (s.track ws).bus = s.bus := by
  simp [State.track]

@[simp] theorem State.contest_track (ws : List Winner) (s : State) : (s.track ws).contest = s.contest := by
  simp [State.track]

@[simp] theorem State.agreement_track (ws : List Winner) (s : State) : (s.track ws).agreement = s.agreement := by
  simp [State.track]

@[simp] theorem State.peers_track (ws : List Winner) (s : State) : (s.track ws).peers = s.peers := by
  simp [State.track]

@[simp] theorem State.frontEnd_track (ws : List Winner) (s : State) : (s.track ws).frontEnd = s.frontEnd := by
  simp [State.track]

@[simp] theorem State.processor_track (ws : List Winner) (s : State) : (s.track ws).processor = s.processor := by
  simp [State.track]

@[simp] theorem State.store_track (ws : List Winner) (s : State) : (s.track ws).store = s.store := by
  simp [State.track]

@[simp] theorem State.port_track (ws : List Winner) (s : State) : (s.track ws).port = s.port := by
  simp [State.track]

@[simp] theorem State.inReset_track (ws : List Winner) (s : State) : (s.track ws).inReset = s.inReset := by
  simp [State.track]

@[simp] theorem State.pending_track (ws : List Winner) (s : State) : (s.track ws).pending = s.pending := by
  simp [State.track]

@[simp] theorem State.freeCount_track (ws : List Winner) (s : State) : (s.track ws).freeCount = s.freeCount := by
  simp [State.track]

@[simp] theorem State.tracker_track (ws : List Winner) (s : State) :
    (s.track ws).tracker =
      (trackingStep (cfgCapture s.store.record) (cfgLiftDelay s.store.record) ws s.tracker).1 := by
  simp [State.track]

/-! ## Membership set -/

@[simp] theorem State.bus_setMembership (m : Membership) (s : State) : (s.setMembership m).bus = s.bus := rfl

@[simp] theorem State.contest_setMembership (m : Membership) (s : State) : (s.setMembership m).contest = s.contest := rfl

@[simp] theorem State.tracker_setMembership (m : Membership) (s : State) : (s.setMembership m).tracker = s.tracker := rfl

@[simp] theorem State.peers_setMembership (m : Membership) (s : State) : (s.setMembership m).peers = s.peers := rfl

@[simp] theorem State.frontEnd_setMembership (m : Membership) (s : State) : (s.setMembership m).frontEnd = s.frontEnd := rfl

@[simp] theorem State.processor_setMembership (m : Membership) (s : State) : (s.setMembership m).processor = s.processor := rfl

@[simp] theorem State.store_setMembership (m : Membership) (s : State) : (s.setMembership m).store = s.store := rfl

@[simp] theorem State.port_setMembership (m : Membership) (s : State) : (s.setMembership m).port = s.port := rfl

@[simp] theorem State.indicator_setMembership (m : Membership) (s : State) : (s.setMembership m).indicator = s.indicator := rfl

@[simp] theorem State.inReset_setMembership (m : Membership) (s : State) : (s.setMembership m).inReset = s.inReset := rfl

@[simp] theorem State.pending_setMembership (m : Membership) (s : State) : (s.setMembership m).pending = s.pending := rfl

@[simp] theorem State.freeCount_setMembership (m : Membership) (s : State) : (s.setMembership m).freeCount = s.freeCount := rfl

@[simp] theorem State.agreement_setMembership (m : Membership) (s : State) :
    (s.setMembership m).agreement = s.agreement.become m := rfl

@[simp] theorem State.queue_setMembership (m : Membership) (s : State) :
    (s.setMembership m).queue = s.queue.arrive { stamp := s.bus.stamp, event := .membership m } := rfl

end Sys2Proof.Machine
end

