-- ==== Sys2Proof/Laws/Engine.lean ====
section
/-! SUPPORT. What the bus engine and the processor leave alone: the local port, the configuration store, the reset state, the
waiting commands and the count of free values. -/

namespace Sys2Proof.Machine

/-- `t` has the local port, the configuration store, the reset state, the waiting commands and the free-value count of `s`. -/
abbrev SamePort (s t : State) : Prop :=
  t.port = s.port ∧ t.store = s.store ∧ t.inReset = s.inReset ∧ t.pending = s.pending ∧ t.freeCount = s.freeCount

@[simp] theorem State.presenceResult_same (a : Nat) (dat : Bool) (s : State) : SamePort s (s.presenceResult a dat) := by
  unfold State.presenceResult
  split <;> simp [SamePort]

@[simp] theorem State.completeOperation_same (s : State) : SamePort s s.completeOperation := by
  unfold State.completeOperation
  split <;> simp [SamePort, State.foldl_queueAt_eq]

@[simp] theorem State.reportAnomaly_same (s : State) : SamePort s s.reportAnomaly := by
  unfold State.reportAnomaly
  split <;> simp [SamePort]

@[simp] theorem State.closeWindow_same (s : State) : SamePort s s.closeWindow := by
  unfold State.closeWindow State.beginOperation
  dsimp only
  split <;> simp [SamePort]

@[simp] theorem State.endContests_same (s : State) : SamePort s s.endContests := by
  unfold State.endContests
  dsimp only
  split <;> simp [SamePort]

@[simp] theorem State.nextContest_same (s : State) : SamePort s s.nextContest := by
  unfold State.nextContest
  split <;> simp [SamePort]

@[simp] theorem State.enterConflict_same (s : State) : SamePort s s.enterConflict := by
  unfold State.enterConflict
  simp [SamePort]

@[simp] theorem State.checkWinner_same (s : State) : SamePort s s.checkWinner := by
  unfold State.checkWinner
  dsimp only
  split <;> (try split) <;> simp [SamePort]

@[simp] theorem State.takeOutcome_same (s : State) : SamePort s s.takeOutcome := by
  unfold State.takeOutcome State.memberOutcome State.listenerOutcome
  repeat' split
  all_goals simp [SamePort]

@[simp] theorem State.slotResult_same (dat : Bool) (s : State) : SamePort s (s.slotResult dat) := by
  unfold State.slotResult State.quietResult State.presenceSlotResult State.claimResult State.bidResult
    State.digestAResult State.digestBResult
  dsimp only
  repeat' split
  all_goals simp [SamePort]

@[simp] theorem State.completeSlot_same (dat : Bool) (s : State) : SamePort s (s.completeSlot dat) := by
  unfold State.completeSlot
  simp [SamePort]

@[simp] theorem State.breakEndMembership_same (s : State) : SamePort s s.breakEndMembership := by
  unfold State.breakEndMembership
  dsimp only
  split <;> simp [SamePort]

@[simp] theorem State.endBreak_same (s : State) : SamePort s s.endBreak := by
  unfold State.endBreak
  simp [SamePort]

@[simp] theorem State.detectBreak_same (s : State) : SamePort s s.detectBreak := by
  unfold State.detectBreak
  dsimp only
  split <;> simp [SamePort]

@[simp] theorem State.abandonRound_same (s : State) : SamePort s s.abandonRound := by
  unfold State.abandonRound State.newRound
  simp [SamePort]

@[simp] theorem State.reportStuck_same (s : State) : SamePort s s.reportStuck := by
  unfold State.reportStuck
  simp [SamePort]

@[simp] theorem State.takeLowLimits_same (s : State) : SamePort s s.takeLowLimits := by
  unfold State.takeLowLimits
  dsimp only
  repeat' split
  all_goals simp [SamePort]

@[simp] theorem State.riseInPhase_same (dat : Bool) (s : State) : SamePort s (s.riseInPhase dat) := by
  unfold State.riseInPhase
  split <;> simp [SamePort]

@[simp] theorem State.rise_same (low : Nat) (dat : Bool) (s : State) : SamePort s (s.rise low dat) := by
  unfold State.rise
  simp [SamePort]

@[simp] theorem State.openSlot_same (s : State) : SamePort s s.openSlot := by
  unfold State.openSlot State.electDrive State.openContest
  dsimp only
  repeat' split
  all_goals simp [SamePort]

@[simp] theorem State.fall_same (s : State) : SamePort s s.fall := by
  unfold State.fall State.openWindow State.newRound
  dsimp only
  split <;> simp [SamePort]

@[simp] theorem State.pull_same (s : State) : SamePort s s.pull := by
  unfold State.pull
  split <;> simp [SamePort]

@[simp] theorem State.releaseBreak_same (o : Bool) (s : State) : SamePort s (s.releaseBreak o) := by
  unfold State.releaseBreak
  dsimp only
  split <;> simp [SamePort]

/-- What a port command leaves alone. -/
theorem State.takeCommand_same (c : PortCommand) (s : State) :
    (s.takeCommand c).inReset = s.inReset ∧ (s.takeCommand c).pending = s.pending ∧
      (s.takeCommand c).freeCount = s.freeCount := by
  cases c <;>
    simp only [State.takeCommand, State.takeNop, State.takeGetStatus, State.takeReadEvent, State.takePeekTouches,
      State.takeReadChannel, State.takeReadPeers, State.takeWriteConfig, State.takeStart, State.takeRecalibrate,
      State.takeBreakNetwork, State.takeSetLamp, State.takeUnknown, State.outsideConfig, State.startEffects] <;>
    (repeat' split) <;> simp

end Sys2Proof.Machine
end

