-- ==== Sys2Proof/Laws/Ops.lean ====
section
/-! SUPPORT. What each shared operation can do, said once: arrivals at the queue, taking a port command, the limits of a low,
falls and rises, entering a phase, and calibration. -/

namespace Sys2Proof.Machine

/-! ## The event queue -/

/-- A record that meets no TOUCH_MOVE of its own id is appended, or counted as lost. -/
theorem EventQueue.arrive_eq_append (r : EventRecord) (q : EventQueue)
    (h : ∀ id p st, r.event = .touchMove id p st → q.records.findIdx? (EventRecord.isMoveOf id) = none) :
    q.arrive r = q.append r := by
  unfold EventQueue.arrive
  split
  · rename_i id p st he
    rw [h id p st he]
  · rfl

/-- A TOUCH_MOVE meets the record that is held for its id. -/
theorem EventQueue.arrive_eq_meetMove (w : Stamp) (id p st i : Nat) (q : EventQueue)
    (h : q.records.findIdx? (EventRecord.isMoveOf id) = some i) :
    q.arrive { stamp := w, event := .touchMove id p st } =
      q.meetMove id i { stamp := w, event := .touchMove id p st } := by
  simp [EventQueue.arrive, h]

/-- Every arrival is an append or a meeting. -/
theorem EventQueue.arrive_cases (r : EventRecord) (q : EventQueue) :
    q.arrive r = q.append r ∨
      ∃ id p st i, r.event = .touchMove id p st ∧ q.records.findIdx? (EventRecord.isMoveOf id) = some i ∧
        q.arrive r = q.meetMove id i r := by
  by_cases h : ∀ id p st, r.event = .touchMove id p st → q.records.findIdx? (EventRecord.isMoveOf id) = none
  · exact Or.inl (q.arrive_eq_append r h)
  · push Not at h
    obtain ⟨id, p, st, he, hf⟩ := h
    obtain ⟨i, hi⟩ := Option.ne_none_iff_exists'.mp hf
    refine Or.inr ⟨id, p, st, i, he, hi, ?_⟩
    obtain ⟨w, e⟩ := r
    subst he
    exact q.arrive_eq_meetMove w id p st i hi

/-- An arrival never makes the queue longer than 16 records. -/
theorem EventQueue.length_arrive_le (r : EventRecord) (q : EventQueue) (h : q.records.length ≤ 16) :
    (q.arrive r).records.length ≤ 16 := by
  rcases q.arrive_cases r with e | ⟨id, p, st, i, -, hi, e⟩
  · rw [e]
    unfold EventQueue.append
    split <;> simp <;> omega
  · rw [e]
    have hlt : i < q.records.length := (List.findIdx?_eq_some_iff_findIdx_eq.mp hi).1
    unfold EventQueue.meetMove
    split
    · simp [List.length_eraseIdx, hlt]
      omega
    · simpa using h

/-- An arrival keeps the lost count within its range. -/
theorem EventQueue.lost_arrive_le (r : EventRecord) (q : EventQueue) (h : q.lost ≤ 255) : (q.arrive r).lost ≤ 255 := by
  rcases q.arrive_cases r with e | ⟨id, p, st, i, -, -, e⟩
  · rw [e]
    unfold EventQueue.append
    split
    · exact h
    · exact Nat.min_le_left _ _
  · rw [e]
    unfold EventQueue.meetMove
    split <;> exact h

/-! ## The port -/

theorem State.whenReceiving_of_receiving (take : State → State) (s : State) (h : s.port.state = .receiving) :
    s.whenReceiving take = take s := by
  simp [State.whenReceiving, h]

theorem State.whenReceiving_of_not (take : State → State) (s : State) (h : s.port.state ≠ .receiving) :
    s.whenReceiving take = s := by
  simp [State.whenReceiving, h]

theorem State.outsideConfig_of_config (take : State → State) (s : State) (h : s.agreement.membership = .config) :
    s.outsideConfig take = s.answer .refusedState [] := by
  simp [State.outsideConfig, h]

theorem State.outsideConfig_of_not (take : State → State) (s : State) (h : s.agreement.membership ≠ .config) :
    s.outsideConfig take = take s := by
  simp [State.outsideConfig, h]

/-! ## Limits of the present low -/

/-- Where no limit is due, nothing happens. -/
theorem State.takeLowLimits_of_not_due (s : State) (h1 : s.longLowDue = false) (h2 : s.breakDue = false)
    (h3 : s.stuckDue = false) : s.takeLowLimits = s := by
  simp [State.takeLowLimits, h1, h2, h3]

/-- A slot whose low stays below the strobe limit meets no limit. -/
theorem State.takeLowLimits_of_slot (s : State) (low : Nat) (h : max s.bus.lowTicks low < 160) :
    State.takeLowLimits { s with bus := s.bus.lowAtLeast low } = { s with bus := s.bus.lowAtLeast low } := by
  have a : ¬ strobeLimit ≤ max s.bus.lowTicks low := by
    simp only [strobeLimit, ticksOfMicros]
    omega
  have b : ¬ breakLimit ≤ max s.bus.lowTicks low := by
    simp only [breakLimit, ticksOfMicros]
    omega
  have c : ¬ stuckLimit ≤ max s.bus.lowTicks low := by
    simp only [stuckLimit, ticksOfMicros]
    omega
  apply State.takeLowLimits_of_not_due <;>
    simp only [State.longLowDue, State.breakDue, State.stuckDue, Bus.lowAtLeast, a, b, c, decide_false, Bool.and_false]

/-- A rise that ends a slot in time completes the slot, and does nothing else. -/
theorem State.rise_of_slot (s : State) (low : Nat) (dat : Bool) (h : max s.bus.lowTicks low < 160)
    (hs : s.bus.phase.isSlot = true) :
    s.rise low dat =
      State.completeSlot dat { s with bus :=
        { s.bus with
          lineLow := false, lowTicks := max s.bus.lowTicks low, stuckReported := false, driveBreakSeen := false } } := by
  unfold State.rise
  rw [State.takeLowLimits_of_slot s low h]
  simp only [Bus.lowAtLeast, Bus.lineRises, State.riseInPhase]
  cases e : s.bus.phase <;> simp [e, Phase.isSlot] at hs ⊢

/-- On a low line there is no fall to cause. -/
theorem State.pull_of_low (s : State) (h : s.bus.lineLow = true) : s.pull = s := by
  simp [State.pull, h]

theorem State.pull_of_high (s : State) (h : s.bus.lineLow = false) : s.pull = s.fall := by
  simp [State.pull, h]

/-! ## Entering IDLE and SETTLING -/

/-- IDLE is entered with its round timer, or left at once for a pending break. -/
theorem Bus.enterIdle_of_pending (r : ConfigRecord) (b : Bus) (h : b.pendingBreak = true) :
    (b.enterIdle r).phase = .breakDrive ∧ (b.enterIdle r).pendingBreak = false ∧
      (b.enterIdle r).breakTimer = some 96000 ∧ (b.enterIdle r).roundTimer = none ∧ (b.enterIdle r).lineLow = true := by
  cases hl : b.lineLow <;>
    simp [Bus.enterIdle, Bus.clearIndices, Bus.beginBreakDrive, Bus.lineFalls, h, hl, breakDriveTicks, ticksOfMicros]

theorem Bus.enterIdle_of_not_pending (r : ConfigRecord) (b : Bus) (h : b.pendingBreak = false) :
    b.enterIdle r =
      { b with
        phase := .idle, slotIndex := 0, contestCount := 0, bitIndex := 0, roundTimer := some (roundTicks r)
        slotTimer := none, strobeTimer := none, settleTimer := none } := by
  simp [Bus.enterIdle, Bus.clearIndices, h]

@[simp] theorem Bus.datDrive_enterIdle (r : ConfigRecord) (b : Bus) : (b.enterIdle r).datDrive = b.datDrive := by
  cases h : b.pendingBreak <;> cases hl : b.lineLow <;>
    simp [Bus.enterIdle, Bus.clearIndices, Bus.beginBreakDrive, Bus.lineFalls, h, hl]

/-- The end of a round stops the strobe (R24). -/
@[simp] theorem Bus.strobeTimer_enterIdle (r : ConfigRecord) (b : Bus) : (b.enterIdle r).strobeTimer = none := by
  cases h : b.pendingBreak <;> cases hl : b.lineLow <;>
    simp [Bus.enterIdle, Bus.clearIndices, Bus.beginBreakDrive, Bus.lineFalls, h, hl]

@[simp] theorem Bus.stamp_enterIdle (r : ConfigRecord) (b : Bus) : (b.enterIdle r).stamp = b.stamp := by
  cases h : b.pendingBreak <;> cases hl : b.lineLow <;>
    simp [Bus.enterIdle, Bus.clearIndices, Bus.beginBreakDrive, Bus.lineFalls, h, hl]

/-! ## Adoption -/

/-- Adoption sets the next id, leaves list and queue as they are, and derives demand again. -/
theorem State.adopt_eq (id : Nat) (s : State) :
    s.adopt id =
      let d := demandOf s.store.record s.indicator.mode s.tracker.touches
      { s with
        tracker := { s.tracker with nextId := id }
        indicator := if d = s.indicator.demand then s.indicator else s.indicator.demandChanges s.store.record d } := by
  simp only [State.adopt, State.deriveDemand_eq]

/-! ## Channels sent to calibrate -/

@[simp] theorem getElem_calibrateWhere (named : Fin 8 → Bool) (cs : Vector ChannelEntry 8) (n : Nat) (h : n < 8) :
    (calibrateWhere named cs)[n] = if named ⟨n, h⟩ then cs[n].enterCalibrating else cs[n] := by
  simp [calibrateWhere]

/-- The strongest candidate, the higher channel at equal strength, is the one found. -/
theorem State.strongestCandidate_eq_some (s : State) (n : Fin 8) (hn : s.isCandidate n = true)
    (hall : ∀ m, s.isCandidate m = true → s.processor.channels[m].strength < s.processor.channels[n].strength ∨
      (s.processor.channels[m].strength = s.processor.channels[n].strength ∧ m ≤ n)) :
    s.strongestCandidate = some n := by
  have inv : ∀ (l : List (Fin 8)) (acc : Option (Fin 8)), (∀ m, acc = some m → s.isCandidate m = true) →
      l.Pairwise (· < ·) → (∀ m, acc = some m → ∀ k ∈ l, m < k) → (n ∈ l ∨ acc = some n) →
      l.foldl (fun best n =>
        if s.isCandidate n then
          match best with
          | none => some n
          | some m => if s.processor.channels[m].strength ≤ s.processor.channels[n].strength then some n else some m
        else best) acc = some n := by
    intro l
    induction l with
    | nil => intro acc _ _ _ h; simpa using h
    | cons k l ih =>
      intro acc h1 h2 h3 h4
      have hk := List.pairwise_cons.mp h2
      simp only [List.foldl_cons]
      by_cases hc : s.isCandidate k = true
      · simp only [hc, if_true]
        cases acc with
        | none =>
          apply ih
          · intro m hm; cases hm; exact hc
          · exact hk.2
          · intro m hm; cases hm; exact hk.1
          · rcases h4 with h4 | h4
            · rcases List.mem_cons.mp h4 with rfl | h5
              · exact Or.inr rfl
              · exact Or.inl h5
            · cases h4
        | some a =>
          have ha := h1 a rfl
          have hak := h3 a rfl k (by simp)
          dsimp only
          by_cases hle : s.processor.channels[a].strength ≤ s.processor.channels[k].strength
          · simp only [hle, if_true]
            apply ih
            · intro m hm; cases hm; exact hc
            · exact hk.2
            · intro m hm; cases hm; exact hk.1
            · rcases h4 with h4 | h4
              · rcases List.mem_cons.mp h4 with rfl | h5
                · exact Or.inr rfl
                · exact Or.inl h5
              · cases h4
                exfalso
                rcases hall k hc with t | ⟨_, t⟩
                · omega
                · exact absurd t (not_le.mpr hak)
          · simp only [hle, if_false]
            apply ih _ h1 hk.2
            · intro m hm j hj; exact h3 m hm j (by simp [hj])
            · rcases h4 with h4 | h4
              · rcases List.mem_cons.mp h4 with rfl | h5
                · exfalso
                  rcases hall a ha with t | ⟨t, _⟩ <;> omega
                · exact Or.inl h5
              · exact Or.inr h4
      · simp only [hc]
        apply ih _ h1 hk.2
        · intro m hm j hj; exact h3 m hm j (by simp [hj])
        · rcases h4 with h4 | h4
          · rcases List.mem_cons.mp h4 with rfl | h5
            · exact absurd hn hc
            · exact Or.inl h5
          · exact Or.inr h4
  exact inv allChannels none (by simp) (by decide) (by simp) (Or.inl (by clear inv hall hn; revert n; decide))

theorem State.strongestCandidate_eq_none (s : State) (h : ∀ n, s.isCandidate n = false) :
    s.strongestCandidate = none := by
  simp [State.strongestCandidate, allChannels, h]

end Sys2Proof.Machine
end

