-- ==== Sys2Proof/Tests/Slice0.lean ====
section
/-! SUPPORT. The data book's worked examples run through the model, and, for every obligation with hypotheses, states and
operands that meet them. -/

namespace Sys2Proof.Tests

open Sys2Proof Sys2Proof.Machine

set_option maxRecDepth 4000

/-! ## Small states -/

/-- The record of the example of section 8.5 as its third START takes it: address 9, FOLLOW, three channels, W 40. -/
def record9 : ConfigRecord :=
  #v[0x25, 0x32, 0x06, 0x4A, 0x18, 0, 0, 0, 0, 0, 40, 10, 0x06, 0x40, 0x46, 0x4B, 0x44, 0x00, 0x20, 0x28]

/-- The state that a command leaves. -/
def after (c : Instr) (s : State) : State :=
  match exec c s with
  | .next t => t
  | .fault _ | .refused _ => s

/-- The bus engine in a phase, with the line low for so many ticks or high. -/
def busIn (p : Phase) (low : Option Nat) : Bus :=
  { Bus.reset with phase := p, lineLow := low.isSome, lowTicks := low.getD 0 }

/-- A station with the example's record, in a membership, with its bus engine as given. -/
def station (m : Membership) (b : Bus) : State :=
  { State.reset with
    bus := b
    agreement := { Agreement.reset with membership := m }
    store := { record := record9, locked := m != .config } }

/-- The station with its port in RECEIVING. -/
def receiving (m : Membership) (p : Phase) : State :=
  { station m (busIn p none) with port := { Port.reset with state := .receiving, csnLow := true } }

/-- The station with its indicator in a phase. -/
def lamp (p : LampPhase) (demand : Bool) : State :=
  { station .member (busIn .idle none) with
    indicator := { Indicator.reset with mode := .on, phase := p, demand := demand, clearTimer := some 0 } }

/-- A member's bus engine in one phase at the start of a slot's low. -/
def slotLow (m : Membership) (p : Phase) (bit : Nat) : State :=
  station m { busIn p (some 16) with bitIndex := bit }

/-- A channel that a finger holds. -/
def touchedChannel (strength : Nat) : ChannelEntry :=
  { ChannelEntry.reset with state := .touched, baseline := some 10000, strength := strength }

/-- A member in a bid slot of the second contest of a round: a winner, a touch, an event and a bid of its own. -/
def midRound : State :=
  { station .member { busIn .bid (some 16) with contestCount := 2, bitIndex := 3, datDrive := true, strobeTimer := some 0 } with
    contest := { Contest.reset with
      winners := [{ strength := 700, position := 40 }]
      bidding := true
      bid := some { channel := 1, value := 256 * 500 + 73 } }
    tracker := { touches := [{ id := 1, position := 40, strength := 700, miss := 0 }], nextId := 2 }
    queue := { records := [{ stamp := 3, event := .touchMove 1 40 700 }], lost := 0, latch := none } }

/-- No field of the example's record fails. -/
theorem record9_valid (k : Nat) : ¬ FieldFails record9 k := by
  have b : ∀ i (h : i < 20), recordNat record9 i =
      [37, 50, 6, 74, 24, 0, 0, 0, 0, 0, 40, 10, 6, 64, 70, 75, 68, 0, 32, 40][i] := by
    decide
  have low : ∀ n < 3, ¬ DescriptorFails record9 n := by
    unfold DescriptorFails NamesPin
    decide
  have d : ∀ n, ¬ DescriptorFails record9 n := fun n h => low n (by simpa [b] using h.1) h
  simp [FieldFails, b, d]

/-! ## The checks on a command -/

theorem test_wf_refuses_unknown_command_with_a_known_byte : (Instr.unknownCommand 0x10).wf = false := by decide

theorem test_wf_takes_unknown_command : (Instr.unknownCommand 0x15).wf = true := by decide

theorem test_wf_refuses_no_cycles : (Instr.oscillatorCycle 0 0).wf = false := by decide

theorem test_wf_takes_cycles : (Instr.oscillatorCycle 7 1).wf = true ∧ Instr.reset.wf = true := by decide

theorem test_no_table_word_spells_a_command : decodeTableWord 8 0x10 = none ∧ State.reset.withFetchWord 8 0x10 = State.reset := by
  decide

/-! ## The data book's examples -/

/-- Sections 8.5 and 11.3: the bytes 25h, 32h and 4Ah, and the three STARTs. -/
theorem test_record_of_section_8_5 :
    (recordByte record9 0, recordByte record9 1, recordByte record9 3) = (0x25, 0x32, 0x4A) ∧
      firstFailingField ((record9.set 4 0x10).set 14 100) = some 5 ∧
      firstFailingField (record9.set 14 100) = some 14 ∧ firstFailingField record9 = none := by
  decide

theorem test_start_enters_listen :
    let s := { receiving .config .off with bus := busIn .off none }
    let t := after .start s
    t.agreement.membership = .listen ∧ t.bus.phase = .settling ∧ t.bus.stamp = 0 ∧
      t.queue.records = [{ stamp := 0, event := .membership .listen }] ∧
      t.processor.channels.toList.map (fun c => c.state) =
        [.calibrating, .calibrating, .calibrating, .unused, .unused, .unused, .unused, .unused] := by
  decide

/-- Section 11.4: the bytes of a TOUCH_DOWN. -/
theorem test_touch_down_bytes :
    EventRecord.bytes { stamp := 4, event := .touchDown 9 15 420 } = [0x01, 0x00, 0x04, 0x09, 0x0F, 0x01, 0xA4, 0x00] := by
  decide

/-- Rounds of winner lists, with the digest after each. -/
def digestsOf (rounds : List (List Winner)) (t : Tracker) : List (BitVec 16) :=
  match rounds with
  | [] => []
  | ws :: rest =>
    let u := (trackingStep 2 1 ws t).1
    u.digest :: digestsOf rest u

/-- Section 3.7: the digests of the slide across a station boundary. -/
theorem test_digests_of_section_3_7 :
    digestsOf [[⟨400, 22⟩], [⟨520, 23⟩], [⟨610, 24⟩], [⟨580, 25⟩, ⟨300, 30⟩], [⟨310, 29⟩], [⟨300, 29⟩], [], []]
      { touches := [], nextId := 7 } =
      [0x0842, 0x0843, 0x0844, 0x09B5, 0x09B5, 0x094A, 0x094B, 0x0900] := by
  decide

/-- Section 3.8: a tie and a full list, with a lift delay of 1 and of 0. -/
theorem test_tie_of_section_3_8 :
    let t : Tracker := { touches := [⟨3, 10, 1, 0⟩, ⟨4, 14, 1, 0⟩, ⟨5, 60, 1, 0⟩, ⟨6, 90, 9, 0⟩], nextId := 7 }
    let ws := [⟨800, 12⟩, ⟨700, 15⟩, ⟨500, 200⟩, ⟨400, 61⟩]
    (trackingStep 2 1 ws t).1.digest = 0x0737 ∧
      (trackingStep 2 1 ws t).2 = [.touchMove 3 12 800, .touchMove 4 15 700, .touchMove 5 61 400] ∧
      (trackingStep 2 0 ws t).1.digest = 0x08A5 ∧
      (trackingStep 2 0 ws t).2 =
        [.touchMove 3 12 800, .touchMove 4 15 700, .touchMove 5 61 400, .touchUp 6 90 9, .touchDown 7 200 500] := by
  decide

/-- The record of section 7.11: touch threshold 120, release threshold 80, filter depth 2, hold limit 0. -/
def record711 : ConfigRecord :=
  #v[0x00, 0x42, 0x00, 0x08, 0x10, 0x18, 0, 0, 0, 0, 40, 10, 0x07, 0x80, 80, 0x40, 0x00, 0x00, 0x20, 0x00]

/-- A channel through several windows: state, baseline and strength after each. -/
def windowsOf (samples : List (Option Nat)) (c : ChannelEntry) : List (ChannelState × Option Nat × Nat) :=
  match samples with
  | [] => []
  | v :: rest =>
    let d := (updateChannel record711 3 v c).1
    (d.state, d.baseline, d.strength) :: windowsOf rest d

/-- Section 7.11: one channel over seventeen windows. -/
theorem test_channel_of_section_7_11 :
    windowsOf [some 10012, some 10020, some 10004, some 10010, some 10003, some 9870, none, some 9850, some 9830,
        some 9945, some 9900, some 9960, some 9990, some 10002, some 10150, some 10160, some 10158]
      ChannelEntry.reset.enterCalibrating =
    [(.calibrating, none, 0), (.calibrating, none, 0), (.calibrating, none, 0), (.idle, some 10011, 0),
     (.idle, some 10010, 8), (.pendingTouch, some 10010, 140), (.pendingTouch, some 10010, 140),
     (.touched, some 10010, 160), (.touched, some 10010, 180), (.pendingRelease, some 10010, 65),
     (.touched, some 10010, 110), (.pendingRelease, some 10010, 50), (.idle, some 10010, 20), (.idle, some 10009, 8),
     (.idle, some 10009, 0), (.idle, some 10160, 0), (.idle, some 10159, 2)] := by
  decide

/-- Section 6.9: results of the windows of stamps 41 to 44, W being 3200 ticks. -/
theorem test_results_of_section_6_9 :
    windowResult 3200 4000 21262 false = some 17009 ∧ windowResult 3200 4000 13775 false = some 11020 ∧
      windowResult 3200 13600 46840 false = none ∧ windowResult 3200 12800 44080 false = some 11020 ∧
      windowResult 3200 12800 65535 true = none := by
  decide

/-- Section 2.11: the first contest among three stations. -/
theorem test_contest_of_section_2_11 :
    let c := fun n v => { Contest.empty with bidding := true, bid := some { channel := n, value := v } }
    let ended := (List.range 20).foldl (fun us i => bidSlot i us) [c 7 158759, c 0 179240, c 2 128050]
    ended.map (fun u => (winnerOf u.assembly, u.lost)) =
      [(⟨700, 40⟩, true), (⟨700, 40⟩, false), (⟨700, 40⟩, true)] := by
  decide

/-- Section 4.9: two members of different digests both find a difference. -/
theorem test_passes_of_section_4_9 :
    let a := fun d => { Agreement.reset with membership := .member, part := some .member, latched := some d }
    (digestPasses [a 0x094A, a 0x09B5]).map (fun u => (passValue u.passA, passValue u.passB, u.difference)) =
      [(0x09FF, 0xF6FF, true), (0x09FF, 0xF6FF, true)] := by
  decide

/-- Section 9.8: a full queue, its two lost records, and the first read. -/
theorem test_queue_of_section_9_8 :
    let put := fun (w : Nat) e (q : EventQueue) => q.arrive { stamp := BitVec.ofNat 16 w, event := e }
    let q2 := put 302 (.touchMove 1 42 540) (put 301 (.touchMove 1 41 520) (put 300 (.touchDown 1 40 500) EventQueue.reset))
    let q16 := (List.range 14).foldl (fun q i => put (303 + i) (.busFault .datStuck) q) q2
    let q18 := put 318 (.touchMove 2 61 310) (put 318 (.touchMove 1 44 570) (put 317 (.touchDown 2 60 300)
      (put 317 (.touchMove 1 43 560) q16)))
    let read := q18.removeHead 318
    q2.records.length = 2 ∧ q16.records.length = 16 ∧ q18.lost = 2 ∧
      q18.records[1]? = some { stamp := 318, event := .touchMove 1 44 570 } ∧ read.records.length = 16 ∧
      read.records.head? = some { stamp := 318, event := .touchMove 1 44 570 } ∧
      read.records.getLast? = some { stamp := 318, event := .overflow 2 } ∧ read.lost = 0 := by
  decide

/-- Section 3.4 (R54): the next id after 2 with records 2, 3 and 4, and after 255. -/
theorem test_next_id_of_R54 :
    freeIdFrom 3 (idAfter 2) [⟨3, 0, 0, 0⟩, ⟨4, 1, 0, 0⟩, ⟨2, 2, 0, 0⟩] = 5 ∧
      freeIdFrom 1 (idAfter 255) [⟨255, 0, 0, 0⟩] = 1 := by
  decide

/-- A command shifted in bit by bit has the effect of its row. -/
theorem test_set_lamp_shifted_in :
    clockIn (bitsOfBytes [0x32, 0x02]) (receiving .member .idle) = .next (after (.setLamp 2) (receiving .member .idle)) := by
  rfl

/-! ## Hypotheses that are met: the queue of commands -/

theorem witness_StepRunsTheFrontCommand :
    ({ State.reset with pending := [.nop, .reset] } : State).pending = Instr.nop :: [.reset] := rfl

/-- Nothing due, one command due, and several. -/
theorem witness_IdleStepTicksOrTakesWhatIsDue :
    let one := station .member { busIn .idle none with roundTimer := some 0 }
    let two := station .member { busIn .idle none with roundTimer := some 0, strobeTimer := some 0 }
    (State.reset.pending = [] ∧ State.reset.due = []) ∧ (one.pending = [] ∧ one.due = [.roundTimerExpiry]) ∧
      (two.pending = [] ∧ two.due = [.roundTimerExpiry, .strobeEnd]) := by
  decide

/-- Every command that can be due is due in some state. -/
theorem witness_DueCommandIsSpent :
    let up := fun (b : Bus) => (station .member b).due
    Instr.roundTimerExpiry ∈ up { busIn .idle none with roundTimer := some 0 } ∧
    Instr.windowHoldEnd ∈ up { busIn .window none with holdTimer := some 0 } ∧
    Instr.gapTimerExpiry ∈ up { busIn .gap none with gapTimer := some 0 } ∧
    Instr.slotIntervalExpiry ∈ up { busIn .bid none with slotTimer := some 0 } ∧
    Instr.strobeEnd ∈ up { busIn .bid none with strobeTimer := some 0 } ∧
    Instr.settlingComplete ∈ up { busIn .settling none with settleTimer := some 0 } ∧
    Instr.commandedBreakEnd true ∈ up { busIn .breakDrive (some 96000) with breakTimer := some 0 } ∧
    Instr.longLow ∈ up (busIn .digestB (some 160)) ∧ Instr.breakDetected ∈ up (busIn .window (some 64000)) ∧
    Instr.syncStuck ∈ up (busIn .brk (some 400000)) ∧
    Instr.preClearEnd ∈ (lamp .preClear true).due ∧ Instr.postClearEnd ∈ (lamp .postClear true).due ∧
    Instr.minimumPumpTimerExpiry ∈
      { lamp .pumping true with indicator := { (lamp .pumping true).indicator with minPumpTimer := some 0 } }.due ∧
    Instr.pumpHighTimeEnd ∈
      { lamp .pumping true with indicator :=
        { (lamp .pumping true).indicator with pumpHigh := true, pumpPos := 333 } }.due ∧
    Instr.pumpPeriodEnd ∈
      { lamp .pumping true with indicator := { (lamp .pumping true).indicator with pumpPos := 1000 } }.due ∧
    Instr.processingOperation ∈
      { State.reset with processor := { Processor.reset with
        inFlight := some { stamp := 0, results := Vector.replicate 8 none }, operationTimer := some 0 } }.due := by
  decide

/-! ## Hypotheses that are met: reset and the local port -/

theorem witness_ResetEndLooksAtCsn :
    let r := after .reset State.reset
    let low := { r with port := { r.port with csnLow := true } }
    (low.inReset = true ∧ low.port.csnLow = true) ∧ (r.inReset = true ∧ r.port.csnLow = false) ∧
      State.reset.inReset = false := by
  decide

theorem witness_CsnBeginsAndEndsATransaction :
    let s := station .member (busIn .idle none)
    let held := fun (p : PortState) => { s with port := { Port.reset with state := p, csnLow := true } }
    let read := fun (l : Option Latch) (sent lost : Nat) =>
      { s with
        port := { Port.reset with state := .sending, csnLow := true, sent := sent }
        queue := { records := [{ stamp := 0, event := .peerJoin 0 }], lost := lost, latch := l } }
    (s.port.csnLow = false ∧ s.port.state = .idle ∧ s.inReset = false) ∧
    ((after .reset s).port.csnLow = false ∧ (after .reset s).inReset = true) ∧
    (let t := { s with port := { Port.reset with state := .ignoring } }
     t.port.csnLow = false ∧ t.port.state ≠ .idle) ∧
    (held .receiving).port.csnLow = true ∧
    (let t := read (some .intact) 72 0
     t.port.csnLow = true ∧ t.queue.latch = some .intact ∧ 72 ≤ t.port.sent ∧ t.queue.lost = 0 ∧
       t.queue.records = { stamp := 0, event := .peerJoin 0 } :: []) ∧
    (let t := read (some .intact) 72 255
     t.port.csnLow = true ∧ t.queue.latch = some .intact ∧ 72 ≤ t.port.sent ∧ t.queue.lost ≠ 0 ∧
       t.queue.records = { stamp := 0, event := .peerJoin 0 } :: []) ∧
    ((read (some .changed) 72 0).port.csnLow = true ∧ (read (some .changed) 72 0).queue.latch ≠ some .intact) ∧
    ((read (some .intact) 71 0).port.csnLow = true ∧ (read (some .intact) 71 0).port.sent < 72) := by
  decide

/-- The eighth bit of an argument that is not the last byte, and of a command byte; the first bit out, the last, and the one
after it. -/
theorem witness_ClockEdgeShiftsOneBit :
    let s := receiving .member .idle
    let with7 := { s with port := { s.port with rxBits := List.replicate 7 false } }
    let sending := fun (n : Nat) => { s with port := { s.port with state := .sending, tx := [0x01, 0x80], sent := n } }
    (s.port.state = .receiving ∧ s.port.rxBits.length < 7) ∧
    (let t := { with7 with port := { with7.port with rxBytes := [0x20] } }
     t.port.state = .receiving ∧ t.port.rxBits.length = 7 ∧
       decodeCommand (t.port.rxBytes ++ [byteOfBits (t.port.rxBits ++ [true])]) = none) ∧
    (with7.port.state = .receiving ∧ with7.port.rxBits.length = 7 ∧
      decodeCommand (with7.port.rxBytes ++ [byteOfBits (with7.port.rxBits ++ [false])]) = some .nop) ∧
    ((sending 7).port.state = .sending ∧ (sending 7).port.tx[(sending 7).port.sent / 8]? = some 0x01 ∧
      (sending 8).port.tx[(sending 8).port.sent / 8]? = some 0x80 ∧ [0, 7, 8, 15].map (fun n => (sending n).sdo) =
        [some false, some true, some true, some false]) ∧
    8 * (sending 16).port.tx.length ≤ (sending 16).port.sent ∧
    State.reset.port.state = .idle ∧
    { s with port := { s.port with state := .ignoring } }.port.state = .ignoring := by
  decide

/-- The least and the longest command. -/
theorem witness_ClockedBitsTakeTheCommand :
    let s := receiving .config .off
    (PortCommand.unknown 0xFF).wf = true ∧ (PortCommand.writeConfig record9).wf = true ∧ s.port.state = .receiving ∧
      s.port.rxBits = [] ∧ s.port.rxBytes = [] := by
  decide

theorem witness_PortCommandsRoundTrip :
    (PortCommand.unknown 0x01).wf = true ∧ PortCommand.nop.wf = true ∧
      0 < (encodeCommand .nop).length ∧ 20 < (encodeCommand (.writeConfig record9)).length := by
  decide

theorem witness_ReadingCommandsAnswerDone : (receiving .conflict .gap).port.state = .receiving := rfl

theorem witness_ReadEventLatchesTheHead :
    let s := receiving .member .idle
    let r : EventRecord := { stamp := 0xFFFF, event := .peerLeave 31 }
    (s.port.state = .receiving ∧ s.queue.records = []) ∧
      { s with queue := { s.queue with records := [r] } }.queue.records = r :: [] := by
  decide

/-- The last channel and the byte after it; the count of three channels is met from both sides. -/
theorem witness_ReadChannelReturnsTheEntry :
    let s := receiving .listen .idle
    (receiving .config .off).agreement.membership = .config ∧
    (s.port.state = .receiving ∧ s.agreement.membership ≠ .config ∧ cfgChannelCount s.store.record ≤ (3 : Byte).toNat) ∧
    8 ≤ (255 : Byte).toNat ∧ (2 : Fin 8).val < cfgChannelCount s.store.record := by
  decide

theorem witness_WriteConfigReplacesTheRecord :
    ((receiving .config .off).port.state = .receiving ∧ (receiving .config .off).agreement.membership = .config) ∧
      ((receiving .listen .off).port.state = .receiving ∧ (receiving .listen .off).agreement.membership ≠ .config) := by
  decide

/-- The all-zero record fails at field 2 and at no field before it. -/
theorem witness_StartNamesTheFirstFailingField :
    let s := { receiving .config .off with store := Store.reset }
    (s.port.state = .receiving ∧ s.agreement.membership = .config) ∧ FieldFails s.store.record 2 ∧
      (∀ j < 2, ¬ FieldFails s.store.record j) ∧ (receiving .member .idle).agreement.membership ≠ .config := by
  refine ⟨by decide, Or.inr (Or.inl ⟨rfl, Or.inl rfl⟩), ?_, by decide⟩
  intro j hj
  have h1 : recordNat Store.reset.record 0 / 4 = 0 := rfl
  have : ¬ FieldFails Store.reset.record j := by
    unfold FieldFails
    dsimp only
    rw [h1]
    omega
  exact this

/-- A station in CONFIG with the example's record: its invariants hold and every field passes. -/
theorem witness_StartPutsTheStationIntoService :
    let s := receiving .config .off
    s.port.state = .receiving ∧ ConfigInv s ∧ LampInv s ∧ s.agreement.membership = .config ∧
      ∀ k, ¬ FieldFails s.store.record k :=
  ⟨rfl, ⟨by decide, by decide, by decide, by decide, by decide, by decide, by decide, fun _ => record9_valid⟩,
    ⟨by decide, by decide, by decide, by decide, by decide⟩, rfl, record9_valid⟩

/-- A mark at the count of three channels, a mark below it, and an operation in flight. -/
theorem witness_RecalibrateNowOrAtTheOperationsEnd :
    let s := receiving .member .idle
    (receiving .config .off).agreement.membership = .config ∧
    (s.port.state = .receiving ∧ s.agreement.membership ≠ .config) ∧
    ((0x08 : Byte).getLsbD 3 = true ∧ cfgChannelCount s.store.record ≤ (3 : Fin 8).val) ∧
    (∀ n : Fin 8, (0x07 : Byte).getLsbD n.val = true → n.val < cfgChannelCount s.store.record) ∧
    s.processor.inFlight = none ∧
    { s with processor := { s.processor with
      inFlight := some { stamp := 0, results := Vector.replicate 8 none } } }.processor.inFlight.isSome = true := by
  decide

theorem witness_BreakNetworkByMembershipAndPhase :
    (receiving .conflict .idle).agreement.membership = .conflict ∧ (receiving .config .off).agreement.membership = .config ∧
    (let s := receiving .listen .breakDrive
     s.port.state = .receiving ∧ s.agreement.membership = .listen ∧ s.bus.phase = .breakDrive) ∧
    (let s := receiving .member .idle
     s.agreement.membership = .member ∧ s.bus.pendingBreak = false ∧ s.bus.phase = .idle) ∧
    (let s := receiving .member .window
     s.bus.pendingBreak = false ∧ s.bus.phase ≠ .idle ∧ s.bus.phase ≠ .breakDrive) := by
  decide

theorem witness_SetLampSetsTheMode :
    (receiving .config .off).agreement.membership = .config ∧
    (let s := receiving .member .idle
     s.port.state = .receiving ∧ s.agreement.membership ≠ .config ∧ 3 ≤ (3 : Byte).toNat ∧ s.indicator.mode = .off ∧
       s.indicator.mode ≠ .follow) ∧
    (lamp .dark false).indicator.phase = .dark ∧ (lamp .preClear true).indicator.phase = .preClear ∧
    (lamp .postClear true).indicator.phase = .postClear ∧
    ((lamp .pumping true).indicator.phase = .pumping ∧ (lamp .pumping true).indicator.elapsed = false) ∧
    { (lamp .pumping true).indicator with elapsed := true }.elapsed = true := by
  decide

/-- In the state after reset no timer runs, no line is low and nothing is counted; the drive with its break detected besides. -/
theorem witness_UnknownCommandsAndEventsThatCannotOccur :
    let names := [0x00#8, 0x10#8, 0x11#8, 0x12#8, 0x13#8, 0x14#8, 0x20#8, 0x21#8, 0x30#8, 0x31#8, 0x32#8]
    let s := State.reset
    ((receiving .config .off).port.state = .receiving ∧ 0x33#8 ∉ names) ∧ 0x32#8 ∈ names ∧ s.port.state ≠ .receiving ∧
    (s.bus.phase ≠ .idle ∧ s.bus.holdTimer = none ∧ s.bus.phase ≠ .gap ∧ s.bus.phase.isSlot = false ∧
      s.bus.strobeTimer = none ∧ s.bus.phase ≠ .settling ∧ s.bus.phase ≠ .breakDrive ∧ s.bus.lineLow = false ∧
      s.frontEnd.counting = false ∧ s.processor.inFlight = none ∧ s.indicator.phase ≠ .preClear ∧
      s.indicator.phase ≠ .postClear ∧ s.indicator.phase ≠ .pumping) ∧
    (let b := { busIn .breakDrive (some 64000) with driveBreakSeen := true }
     b.phase = .breakDrive ∧ b.driveBreakSeen = true) ∧
    cfgChannelCount record9 ≤ (3 : Fin 8).val := by
  decide

/-! ## Hypotheses that are met: falls of SYNC -/

theorem witness_FallOpensAWindow :
    (station .conflict (busIn .idle none)).bus.lineLow = false ∧ (station .conflict (busIn .idle none)).bus.phase = .idle := by
  decide

/-- The slots of addresses 0 and 31, and the bid slots at both ends. -/
theorem witness_FallOpensASlot :
    (station .listen (busIn .gap none)).bus.phase = .gap ∧ (busIn .gap none).lineLow = false ∧
    (let first := { busIn .presence none with slotIndex := 1 }
     let last := { busIn .presence none with slotIndex := 32 }
     first.lineLow = false ∧ first.phase = .presence ∧ 1 ≤ first.slotIndex ∧ 1 ≤ last.slotIndex) ∧
    (let b : Bid := { channel := 0, value := 1 }
     let s := { station .member (busIn .bid none) with contest := { Contest.reset with bidding := true, bid := some b } }
     s.bus.lineLow = false ∧ s.bus.phase = .bid ∧ s.contest.bidding = true ∧ s.contest.lost = false ∧
       s.contest.bid = some b) ∧
    (station .member (busIn .bid none)).contest.bidding = false ∧
    { Contest.reset with lost := true }.lost = true := by
  decide

/-- Two candidates of equal strength, of which the higher is bid; and no candidate. -/
theorem witness_FallOpensAClaimSlot :
    let cs := (Vector.replicate 8 ChannelEntry.reset).set 1 (touchedChannel 50) |>.set 2 (touchedChannel 50)
    let s := { station .member (busIn .claim none) with processor := { Processor.reset with channels := cs } }
    let candidate := fun (s : State) (n : Fin 8) =>
      (s.processor.channels[n].state = .touched ∨ s.processor.channels[n].state = .pendingRelease) ∧
        s.contest.won[n] = false ∧ s.contest.suppressed[n] = false
    (s.bus.lineLow = false ∧ s.bus.phase = .claim ∧ s.agreement.membership = .member) ∧ candidate s 2 ∧
    (∀ m : Fin 8, candidate s m → s.processor.channels[m].strength < s.processor.channels[(2 : Fin 8)].strength ∨
      (s.processor.channels[m].strength = s.processor.channels[(2 : Fin 8)].strength ∧ m ≤ 2)) ∧
    (let t := station .member (busIn .claim none)
     t.bus.phase = .claim ∧ t.agreement.membership = .member ∧ ∀ n, ¬ candidate t n) ∧
    (station .listen (busIn .claim none)).agreement.membership ≠ .member := by
  decide

theorem witness_FallOpensADigestSlot :
    let s := fun (p : Phase) (i : Nat) (part : Option DigestPart) =>
      { station .member { busIn p none with bitIndex := i } with
        agreement := { Agreement.reset with membership := .member, latched := some 0x0250, part := part } }
    ((s .digestA 0 none).bus.lineLow = false ∧ (s .digestA 0 none).bus.phase = .digestA ∧ (s .digestA 0 none).bus.bitIndex = 0) ∧
    ((s .digestA 15 (some .member)).agreement.part = some .member ∧
      (s .digestA 15 (some .member)).agreement.latched = some 0x0250 ∧ (s .digestA 15 (some .member)).bus.phase = .digestA ∧
      (s .digestA 15 (some .member)).bus.bitIndex ≠ 0) ∧
    ((s .digestB 0 (some .member)).agreement.part = some .member ∧
      (s .digestB 0 (some .member)).agreement.latched = some 0x0250 ∧ (s .digestB 0 (some .member)).bus.phase = .digestB) ∧
    ((s .digestB 15 (some .forcing)).bus.phase = .digestB ∧ (s .digestB 15 (some .forcing)).agreement.part = some .forcing) ∧
    ((s .digestA 1 (some .listener)).bus.phase = .digestA ∧ (s .digestA 1 (some .listener)).bus.bitIndex ≠ 0 ∧
      (s .digestA 1 (some .listener)).agreement.part = some .listener) ∧
    (s .digestB 1 (some .silent)).agreement.part = some .silent ∧ (s .digestB 1 none).agreement.part = none := by
  decide

theorem witness_OwnTimersPullLikeAFall :
    let s := fun (p : Phase) (low : Option Nat) => station .member
      { busIn p low with roundTimer := some 0, gapTimer := some 0, slotTimer := some 0 }
    ((s .idle none).bus.phase = .idle ∧ (s .idle none).bus.roundTimer.isSome = true ∧ (s .idle none).bus.lineLow = false) ∧
    ((s .idle (some 0)).bus.phase = .idle ∧ (s .idle (some 0)).bus.lineLow = true) ∧
    ((s .gap none).bus.phase = .gap ∧ (s .gap none).bus.gapTimer.isSome = true ∧ (s .gap none).bus.lineLow = false) ∧
    (s .gap (some 0)).bus.lineLow = true ∧
    ((s .claim none).bus.phase.isSlot = true ∧ (s .claim none).bus.slotTimer.isSome = true ∧
      (s .claim none).bus.lineLow = false) ∧
    ((s .claim (some 0)).bus.phase.isSlot = true ∧ (s .claim (some 0)).bus.lineLow = true) := by
  decide

theorem witness_LineChangesWithoutARound :
    ((busIn .off none).lineLow = false ∧ (busIn .off none).phase = .off) ∧ (busIn .window none).phase = .window ∧
    (busIn .brk none).phase = .brk ∧ (busIn .breakDrive none).phase = .breakDrive ∧
    ((busIn .settling none).lineLow = false ∧ (busIn .settling none).phase = .settling) ∧
    ((busIn .off (some 0)).lineLow = true ∧ (busIn .off (some 0)).phase = .off) ∧
    ((busIn .idle (some 0)).phase = .idle ∧ (busIn .gap (some 0)).phase = .gap ∧
      (busIn .breakDrive (some 0)).phase = .breakDrive ∧ max (busIn .gap (some 0)).lowTicks 63999 < 64000) ∧
    (let b := { busIn .breakDrive (some 0) with driveBreakSeen := true }
     b.lineLow = true ∧ b.driveBreakSeen = true ∧ max b.lowTicks 399999 < 400000) ∧
    ((busIn .settling (some 0)).lineLow = true ∧ (busIn .settling (some 0)).phase = .settling ∧
      max (busIn .settling (some 0)).lowTicks 399999 < 400000) ∧
    { busIn .settling (some 400000) with stuckReported := true }.stuckReported = true := by
  decide

/-! ## Hypotheses that are met: rises of SYNC -/

/-- A window accepted at exactly W and at 4 W, one tick outside each, and the longest of all. -/
theorem witness_RiseClosesTheWindow :
    let s := station .member (busIn .window (some 0))
    (s.bus.lineLow = true ∧ s.bus.phase = .window ∧ s.processor.inFlight = none ∧ max s.bus.lowTicks 63999 < 64000) ∧
      80 * cfgWindow s.store.record = 3200 ∧
      [3199, 3200, 12800, 12801].map (windowAccepted 3200) = [false, true, true, false] := by
  decide

/-- The longest low that completes a slot. -/
theorem witness_QuietAndClaimSlotsDecideWhatFollows :
    (SlotLow 159 (slotLow .member .quiet 0) ∧ (slotLow .member .quiet 0).bus.phase = .quiet) ∧
      SlotLow 0 (slotLow .member .claim 0) ∧ (slotLow .member .claim 0).bus.phase = .claim := by
  decide

/-- Every row of R94's table, the rows of a missing peer at miss counts 1 and 2, and the addresses 0 and 31. -/
theorem witness_PresenceSlotUpdatesTheEntry :
    let s := fun (a : Fin 32) (p : PeerEntry) =>
      { slotLow .listen .presence 0 with
        bus := { busIn .presence (some 16) with slotIndex := 1 + a.val }
        peers := { PeerTable.reset with entries := PeerTable.reset.entries.set a p } }
    (∀ a ∈ [(0 : Fin 32), 31], ∀ p ∈ [(⟨.absent, 0, 0⟩ : PeerEntry), ⟨.present, 0, 5⟩, ⟨.missing, 1, 5⟩, ⟨.missing, 2, 5⟩],
      SlotLow 20 (s a p) ∧ (s a p).bus.phase = .presence ∧ (s a p).bus.slotIndex = 1 + a.val ∧
        (s a p).peers.entries[a] = p) := by
  decide

theorem witness_BidSlotIsReadBack :
    ∀ i ∈ [0, 18], SlotLow 20 (slotLow .member .bid i) ∧ (slotLow .member .bid i).bus.phase = .bid ∧
      (slotLow .member .bid i).bus.bitIndex < 19 := by
  decide

/-- One state for each outcome: a phantom by presence, one by order, a conflict, a station's own win, and another station's
win before and at the fourth contest. The bits of the winner (3, 72), which is the station's own channel 0. -/
theorem witness_TwentiethBidSlotDecidesTheWinner :
    let bits := List.replicate 10 false ++ [true, true] ++ [false, true, false, false, true, false, false]
    let s := fun (m : Membership) (count : Nat) (c : Contest) (t : PeerTable) =>
      { station m { busIn .bid (some 16) with bitIndex := 19, contestCount := count } with
        contest := { c with assembly := bits }, peers := t }
    let here := { PeerTable.reset with presence := Vector.replicate 32 (some true) }
    let away := { PeerTable.reset with presence := Vector.replicate 32 (some false) }
    let own := { Contest.reset with bidding := true, bid := some { channel := 0, value := 256 * 3 + 72 } }
    let before := { Contest.reset with winners := [{ strength := 3, position := 72 }] }
    natOfBits (bits ++ [false]) = 256 * 3 + 72 ∧ 72 / 8 = cfgAddress record9 ∧
    (∀ u ∈ [s .member 1 own here, s .member 4 own here, s .listen 1 Contest.reset here, s .listen 4 Contest.reset here,
        s .conflict 1 Contest.reset here, s .conflict 4 Contest.reset here, s .member 1 own away, s .member 2 before here],
      SlotLow 20 u ∧ u.bus.phase = .bid ∧ u.bus.bitIndex = 19 ∧ u.contest.assembly.length = 19) ∧
    (s .member 1 own away).peers.presence[9]? = some (some false) ∧
    (∃ x ∈ (s .member 2 before here).contest.winners,
      256 * x.strength + x.position ≤ natOfBits (bits ++ [false]) ∨ x.position = 72) ∧
    (∀ u ∈ [s .member 1 own here, s .member 4 own here, s .listen 1 Contest.reset here, s .listen 4 Contest.reset here,
        s .conflict 1 Contest.reset here, s .conflict 4 Contest.reset here],
      ¬ (u.peers.presence[9]? = some (some false) ∨
        ∃ x ∈ u.contest.winners, 256 * x.strength + x.position ≤ natOfBits (bits ++ [false]) ∨ x.position = 72)) ∧
    (∀ u ∈ [s .listen 1 Contest.reset here, s .listen 4 Contest.reset here],
      (u.agreement.membership = .listen ∨ u.agreement.membership = .member) ∧
        ¬ (u.contest.bidding = true ∧ u.contest.lost = false)) ∧
    (∀ u ∈ [s .member 1 own here, s .member 4 own here], u.contest.bidding = true ∧ u.contest.lost = false) ∧
    (s .conflict 1 Contest.reset here).bus.contestCount < 4 ∧ ¬ (s .conflict 4 Contest.reset here).bus.contestCount < 4 := by
  decide

theorem witness_DigestSlotIsRecorded :
    (∀ i ∈ [0, 14, 15], SlotLow 20 (slotLow .member .digestA i) ∧ (slotLow .member .digestA i).bus.phase = .digestA ∧
      (slotLow .member .digestA i).bus.bitIndex = i) ∧
    (∀ i ∈ [0, 14], SlotLow 20 (slotLow .member .digestB i) ∧ (slotLow .member .digestB i).bus.phase = .digestB ∧
      (slotLow .member .digestB i).bus.bitIndex < 15) := by
  decide

/-- A member that agrees and one that does not; a listener that adopts, one that waits for a touch or for an empty line, and
one that reads a disagreement; a station in CONFLICT. -/
theorem witness_LastDigestSlotTakesTheOutcome :
    let bits := fun (n : Nat) => (List.range 16).map fun i => (BitVec.ofNat 16 n).getMsbD i
    let s := fun (m : Membership) (part : DigestPart) (a b : Nat) (difference : Bool) =>
      { slotLow m .digestB 15 with agreement :=
        { Agreement.reset with
          membership := m, part := some part, passA := bits a, passB := (bits b).take 15, difference := difference } }
    (∀ u ∈ [s .member .member 0x0100 0xFEFF false, s .member .member 0x0100 0xFEFF true,
        s .listen .listener 0x0100 0xFEFF false, s .listen .listener 0x0250 0xFDAF false,
        s .listen .forcing 0xFFFF 0xFFFF false, s .listen .listener 0 0xFFFF false, s .conflict .silent 0 0 false],
      SlotLow 20 u ∧ u.bus.phase = .digestB ∧ u.bus.bitIndex = 15 ∧ u.agreement.passA.length = 16 ∧
        (u.agreement.passB ++ [true]).length = 16) ∧
    (s .member .member 0x0100 0xFEFF false).agreement.part = some .member ∧
    ((s .member .member 0x0100 0xFEFF false).agreement.difference ||
      (true && (false != (s .member .member 0x0100 0xFEFF false).bus.datDrive))) = false ∧
    (s .member .member 0x0100 0xFEFF true).agreement.difference = true ∧
    (let u := s .listen .listener 0x0100 0xFEFF false
     u.agreement.part = some .listener ∧ natOfBits u.agreement.passA + natOfBits (u.agreement.passB ++ [true]) = 65535 ∧
       natOfBits u.agreement.passA % 256 = 0 ∧ natOfBits u.agreement.passA ≠ 0) ∧
    (let u := s .listen .listener 0x0250 0xFDAF false
     natOfBits u.agreement.passA + natOfBits (u.agreement.passB ++ [true]) = 65535 ∧ natOfBits u.agreement.passA % 256 ≠ 0) ∧
    (let u := s .listen .listener 0 0xFFFF false
     natOfBits u.agreement.passA + natOfBits (u.agreement.passB ++ [true]) = 65535 ∧ natOfBits u.agreement.passA = 0) ∧
    (let u := s .listen .forcing 0xFFFF 0xFFFF false
     u.agreement.part = some .forcing ∧ natOfBits u.agreement.passA + natOfBits (u.agreement.passB ++ [true]) ≠ 65535) ∧
    (s .conflict .silent 0 0 false).agreement.part = some .silent := by
  decide

/-! ## Hypotheses that are met: lows that last -/

theorem witness_LongLowAbandonsTheRound :
    (slotLow .member .quiet 0).bus.lineLow = true ∧ (slotLow .member .quiet 0).bus.phase.isSlot = true ∧
      (slotLow .member .digestB 0).bus.phase.isSlot = true := by
  decide

theorem witness_BreakIsDetected :
    (∀ b ∈ [busIn .idle (some 64000), busIn .breakDrive (some 64000)],
      b.lineLow = true ∧ b.phase ≠ .off ∧ b.phase ≠ .settling ∧ b.phase ≠ .brk ∧
        (b.phase = .breakDrive → b.driveBreakSeen = false)) := by
  decide

theorem witness_BreakEndsInSettling :
    ((busIn .brk (some 64000)).lineLow = true ∧ (busIn .brk (some 64000)).phase = .brk ∧
      max (busIn .brk (some 64000)).lowTicks 399999 < 400000) ∧
    { busIn .brk (some 400000) with stuckReported := true }.stuckReported = true ∧
    (let b := { busIn .breakDrive (some 96000) with breakTimer := some 0, driveBreakSeen := true }
     b.lineLow = true ∧ b.phase = .breakDrive ∧ b.breakTimer.isSome = true ∧ b.driveBreakSeen = true ∧
       max b.lowTicks 96000 < 400000) := by
  decide

theorem witness_ShorterLimitsAreTakenFirst :
    let breakToCome := fun b : Bus => b.phase = .window ∨ b.phase = .idle ∨ b.phase = .gap ∨
      (b.phase = .breakDrive ∧ b.driveBreakSeen = false)
    ((busIn .bid (some 0)).lineLow = true ∧ (busIn .bid (some 0)).phase.isSlot = true ∧
      160 ≤ max (busIn .bid (some 0)).lowTicks 160) ∧
    (∀ b ∈ [busIn .window (some 0), busIn .idle (some 0), busIn .gap (some 0), busIn .breakDrive (some 0)],
      b.lineLow = true ∧ breakToCome b ∧ 64000 ≤ max b.lowTicks 64000) ∧
    ((busIn .settling (some 0)).lineLow = true ∧ (busIn .settling (some 0)).phase ≠ .off ∧
      400000 ≤ max (busIn .settling (some 0)).lowTicks 400000) ∧
    (let b := { busIn .breakDrive (some 0) with breakTimer := some 0 }
     b.lineLow = true ∧ b.phase = .breakDrive ∧ b.breakTimer.isSome = true ∧ b.driveBreakSeen = false) ∧
    (let b := { busIn .breakDrive (some 400000) with breakTimer := some 0, driveBreakSeen := true }
     b.lineLow = true ∧ b.phase = .breakDrive ∧ b.breakTimer.isSome = true ∧ 400000 ≤ b.lowTicks) := by
  decide

theorem witness_StuckReportHoldEndsAndSettling :
    (∀ b ∈ [busIn .settling (some 0), busIn .brk (some 0), { busIn .breakDrive (some 0) with driveBreakSeen := true }],
      b.lineLow = true ∧ (b.phase = .settling ∨ b.phase = .brk ∨ (b.phase = .breakDrive ∧ b.driveBreakSeen = true)) ∧
        b.stuckReported = false) ∧
    { busIn .brk (some 0) with stuckReported := true }.stuckReported = true ∧
    { busIn .window (some 0) with holdTimer := some 0 }.holdTimer.isSome = true ∧
    { busIn .quiet (some 0) with strobeTimer := some 0 }.strobeTimer.isSome = true ∧
    (let b := { busIn .settling none with settleTimer := some 0 }
     b.phase = .settling ∧ b.settleTimer.isSome = true) := by
  decide

/-! ## Hypotheses that are met: the channels -/

/-- The last configured channel, its counter one below its range and at it. -/
theorem witness_CounterStopsAtItsRange :
    let f := fun (n : Nat) => { FrontEnd.reset with counting := true, counters := Vector.replicate 8 n }
    ((f 0).counting = true ∧ (2 : Fin 8).val < cfgChannelCount record9) ∧ (f 65534).counters[(2 : Fin 8)] < 65535 ∧
      (f 65535).counters[(2 : Fin 8)] = 65535 ∧ (f 65535).counters[(2 : Fin 8)] ≤ 65535 ∧ FrontEnd.reset.counting = false := by
  decide

/-- The operation of a window in which every result is invalid. -/
def invalidWindow : HandOff := { stamp := 5, results := Vector.replicate 8 none }

theorem witness_ProcessingOperationCompletes :
    { State.reset with processor := { Processor.reset with inFlight := some invalidWindow } }.processor.inFlight =
      some invalidWindow := rfl

/-- One configured channel; an invalid result; three channels of which one is idle; and all held, the counter at 62 and 63. -/
theorem witness_OperationUpdatesChannelsAndBlanket :
    let valid : HandOff := { stamp := 5, results := Vector.replicate 8 (some 9000) }
    let p := fun (c : ChannelEntry) (b : Nat) =>
      { Processor.reset with channels := Vector.replicate 8 c, blanket := b }
    let held := touchedChannel 1000
    let idle := { held with state := .idle, baseline := some 9000 }
    let updated := fun (q : Processor) (n : Fin 8) => (updateChannel record9 n valid.results[n] q.channels[n]).1.state
    (cfgChannelCount (record9.set 1 0x12) < 2 ∧ (p held 63).blanket < 64) ∧
    (2 ≤ cfgChannelCount record9 ∧ (∃ n : Fin 8, n.val < cfgChannelCount record9 ∧ invalidWindow.results[n] = none)) ∧
    (¬ ∃ n : Fin 8, n.val < cfgChannelCount record9 ∧ valid.results[n] = none) ∧
    (¬ ∀ n : Fin 8, n.val < cfgChannelCount record9 → updated (p idle 0) n = .touched) ∧
    (∀ n : Fin 8, n.val < 3 →
      (updateChannel (record9.set 3 0x08) n valid.results[n] (p held 63).channels[n]).1.state = .touched) ∧
    (p held 62).blanket < 63 ∧ (p held 63).blanket = 63 := by
  decide

theorem witness_ChannelUpdateByState :
    (let c := { ChannelEntry.reset with state := .calibrating, calCount := 2 }
     c.state = .calibrating ∧ c.calCount < 3) ∧
    (let c := { ChannelEntry.reset with state := .calibrating, calCount := 3 }
     c.state = .calibrating ∧ c.calCount = 3) ∧
    (∀ st ∈ [ChannelState.idle, .pendingTouch, .touched, .pendingRelease],
      let c := { touchedChannel 0 with state := st }
      (c.state = .idle ∨ c.state = .pendingTouch ∨ c.state = .touched ∨ c.state = .pendingRelease) ∧
        c.baseline = some 10000) := by
  decide

/-- The two thresholds of section 7.11 at and just below, the depths 1 and 2, and the counters at their last step. -/
theorem witness_FilterAndBaselineFollowTheirTables :
    ((119 : Int) < (120 : Nat) ∧ ((120 : Nat) : Int) ≤ 120 ∧ ((80 : Nat) : Int) ≤ 80 ∧ (79 : Int) < (80 : Nat)) ∧
    (1 < 2 ∧ 0 + 1 < 2 ∧ 1 + 1 = 2) ∧
    (0 < 120 ∧ -((120 : Nat) : Int) < -119 ∧ (-120 : Int) ≤ -((120 : Nat) : Int) ∧ 10009 < 10010 ∧ 2 ≤ 1 + 1) ∧
    ChannelState.touched ≠ .idle := by
  decide

/-! ## Hypotheses that are met: the indicator -/

theorem witness_LampTimersAndPumpEdges :
    (∀ d, (lamp .preClear d).indicator.phase = .preClear ∧ (lamp .preClear d).indicator.demand = d ∧
      (lamp .postClear d).indicator.phase = .postClear ∧ (lamp .postClear d).indicator.demand = d ∧
      (let i := { (lamp .pumping d).indicator with minPumpTimer := some 0 }
       i.phase = .pumping ∧ i.minPumpTimer.isSome = true ∧ i.demand = d) ∧
      (let i := { (lamp .pumping d).indicator with pumpHigh := true }
       i.phase = .pumping ∧ i.pumpHigh = true)) ∧
    cfgPumpSelect record9 ≤ 5 ∧ cfgPumpSelect (record9.set 15 0x4D) = 5 := by
  decide

/-! ## Hypotheses that are met: the queue and the tracker -/

/-- Fifteen records and sixteen; a move held at the head and behind a record, with its touch's end after it and without. -/
theorem witness_RecordArrivesAtTheQueue :
    let r : EventRecord := { stamp := 1, event := .peerJoin 0 }
    let held : EventRecord := { stamp := 2, event := .touchMove 7 25 580 }
    let up : EventRecord := { stamp := 3, event := .touchUp 7 25 580 }
    (List.replicate 15 r).length < 16 ∧ 16 ≤ (List.replicate 16 r).length ∧
    (∀ x ∈ [r, held], ∀ p' st', x.event ≠ .touchMove 8 p' st') ∧
    [held] = [] ++ held :: [] ∧ (∀ x ∈ ([] : List EventRecord), ∀ a b, x.event ≠ .touchMove 7 a b) ∧
    [r, held, up] = [r] ++ held :: [up] ∧ (∀ x ∈ [r], ∀ a b, x.event ≠ .touchMove 7 a b) ∧
    (∃ x ∈ [up], ∃ a b, x.event = .touchUp 7 a b ∨ x.event = .touchLost 7 a b) ∧
    ¬ (∃ x ∈ ([] : List EventRecord), ∃ a b, x.event = .touchUp 7 a b ∨ x.event = .touchLost 7 a b) := by
  simp

/-- A full list but for one place, with the next id at either end of its range. -/
theorem witness_NextIdIsTheFirstFreeValue :
    ∀ id ∈ [1, 255], let t : Tracker := { touches := [⟨2, 0, 0, 0⟩, ⟨3, 1, 0, 0⟩, ⟨4, 2, 0, 0⟩], nextId := id }
      t.touches.length < 4 ∧ 1 ≤ t.nextId ∧ t.nextId ≤ 255 := by
  decide

/-- The first winner of section 3.8, which ties between two records; the third, which no record is near; a list of three
records and one of four. -/
theorem witness_TrackingStagesMatchAgeAndCreate :
    let cs := [(⟨⟨3, 10, 1, 0⟩, false⟩ : Candidate), ⟨⟨4, 14, 1, 0⟩, false⟩, ⟨⟨5, 12, 1, 0⟩, true⟩]
    let gap := fun (p : Nat) (c : Candidate) => ((c.touch.position : Int) - p).natAbs
    (cs[0]? = some ⟨⟨3, 10, 1, 0⟩, false⟩ ∧ gap 12 ⟨⟨3, 10, 1, 0⟩, false⟩ ≤ 2 ∧
      ∀ j d, cs[j]? = some d → d.matched = false →
        gap 12 ⟨⟨3, 10, 1, 0⟩, false⟩ < gap 12 d ∨ (gap 12 ⟨⟨3, 10, 1, 0⟩, false⟩ = gap 12 d ∧ 0 ≤ j)) ∧
    (∀ c ∈ cs, c.matched = true ∨ 2 < gap 200 c) ∧
    ([⟨3, 10, 1, 0⟩, ⟨4, 14, 1, 0⟩, ⟨5, 60, 1, 0⟩] : List TouchRecord).length < 4 ∧
    4 ≤ ([⟨3, 10, 1, 0⟩, ⟨4, 14, 1, 0⟩, ⟨5, 60, 1, 0⟩, ⟨6, 90, 1, 0⟩] : List TouchRecord).length := by
  refine ⟨⟨rfl, by decide, ?_⟩, by decide, by decide, by decide⟩
  intro j d hd hm
  rcases j with _ | _ | _ | j
  · cases hd
    decide
  · cases hd
    decide
  · cases hd
    cases hm
  · cases hd

/-! ## Hypotheses that are met: several stations -/

/-- Four bidders, a member without a bid and a station that does not bid but still holds one. -/
theorem witness_ContestFindsTheHighestBid :
    let bidders : List Bid := [⟨7, 158759⟩, ⟨0, 179240⟩, ⟨2, 128050⟩, ⟨1, 2 ^ 20 - 1⟩]
    let cs := Contest.empty :: { Contest.empty with bid := some ⟨3, 5⟩ } ::
      bidders.map fun b => { Contest.empty with bidding := true, bid := some b }
    let bids := cs.filterMap fun c => if c.bidding then c.bid else none
    (∀ c ∈ cs, c.lost = false ∧ c.assembly = [] ∧ (c.bidding = true → c.bid.isSome = true)) ∧ bids = bidders ∧
      bids ≠ [] ∧ (∀ b ∈ bids, b.value < 2 ^ 20) ∧ (bids.map Bid.value).Nodup := by
  decide

/-- Two members and a listener, and beside them a forcing listener. -/
theorem witness_DigestPassesShowEveryDisagreement :
    let a := fun (p : DigestPart) (d : BitVec 16) => { Agreement.reset with part := some p, latched := some d }
    let units := [a .member 0x094A, a .member 0x09B5, a .listener 0x0100]
    let ok := fun (a : Agreement) =>
      (a.part = some .member → a.latched.isSome = true) ∧ a.difference = false ∧ a.passA = [] ∧ a.passB = []
    (∀ a ∈ units, ok a) ∧ (∀ a ∈ units, a.part ≠ some .forcing) ∧
      (∀ b ∈ a .forcing 0x0100 :: units, ok b) ∧ ∃ b ∈ a .forcing 0x0100 :: units, b.part = some .forcing := by
  decide

/-! ## Hypotheses that are met: what every step keeps -/

theorem witness_EveryStepKeepsTheEventQueue : QueueInv midRound ∧ ∃ t, step midRound = .next t :=
  ⟨⟨by decide, by decide, fun _ => List.length_filter_le _ _⟩, _, rfl⟩

theorem midRound_surface : SurfaceInv midRound where
  config := ⟨by decide, by decide, by decide, by decide, by decide, by decide, by decide, fun _ => record9_valid⟩
  role := ⟨by decide, by decide, by decide, by decide⟩
  winner := ⟨by simp [midRound], by decide, ⟨by decide, by decide⟩⟩
  tracker := ⟨⟨by decide, by decide, by decide, by decide, by decide, by decide, by decide⟩, by decide, by decide⟩

theorem witness_EveryStepKeepsTheSurfaceState : SurfaceInv midRound ∧ ∃ t, step midRound = .next t :=
  ⟨midRound_surface, _, rfl⟩

theorem witness_EveryStepKeepsTheLineDrives :
    SurfaceInv midRound ∧ DatInv midRound ∧ SyncInv midRound ∧ midRound.bus.datDrive = true ∧
      ∃ t, step midRound = .next t := by
  refine ⟨midRound_surface, ?_, ⟨by decide, by decide, by decide⟩, rfl, _, rfl⟩
  unfold DatInv
  decide

theorem witness_EveryStepKeepsTheLamp : ConfigInv midRound ∧ LampInv midRound ∧ ∃ t, step midRound = .next t :=
  ⟨midRound_surface.config, ⟨by decide, by decide, by decide, by decide, by decide⟩, _, rfl⟩

theorem witness_EveryStepKeepsTheChannelRanges :
    ConfigInv midRound ∧ ChannelInv midRound ∧ FrontEndInv midRound ∧ ∃ t, step midRound = .next t := by
  refine ⟨midRound_surface.config, ⟨fun n => ?_, by decide, by decide⟩, ⟨by decide, by decide⟩, _, rfl⟩
  have h : midRound.processor.channels[n] = ChannelEntry.reset := by
    revert n
    decide
  rw [h]
  exact ⟨by decide, by decide, by decide, by decide, by decide, by decide, by decide, by decide, by decide, by decide⟩

theorem witness_LockedRecordStaysAsItIs :
    ConfigInv midRound ∧ midRound.store.locked = true ∧ Instr.writeConfig record9 ≠ .reset ∧
      ∃ t, exec (.writeConfig record9) midRound = .next t :=
  ⟨midRound_surface.config, rfl, by decide, _, rfl⟩

end Sys2Proof.Tests
end

section
/-! SUPPORT. Rules of the touch list's operations: what a clear leaves, the order in which ids are taken, the search for the
next id, the creation of a touch, and the checksum and the digest as sums. -/

namespace Sys2Proof.Machine

/-! ## A clear -/

/-- A clear changes the tracker, the queue and the indicator alone (R58, R163). -/
theorem State.clearTouches_eq (c : ClearCause) (s : State) :
    s.clearTouches c =
      let records := (s.tracker.touches.map fun t => Event.touchLost t.id t.position t.strength) ++ [Event.netClear c]
      let d := demandOf s.store.record s.indicator.mode []
      { s with
        tracker := Tracker.reset
        queue := records.foldl (fun q e => q.arrive { stamp := s.bus.stamp, event := e }) s.queue
        indicator := if d = s.indicator.demand then s.indicator else s.indicator.demandChanges s.store.record d } := by
  simp only [State.clearTouches, State.deriveDemand_eq, State.recordAll_eq, Tracker.reset]

theorem Tracker.digest_reset : Tracker.reset.digest = 0x0100 := by decide

/-! ## The order of ids (R54) -/

/-- The ids stand in a circle of 255 values: the values from `n % 255 + 1` on are `(n + k) % 255 + 1`. -/
theorem idAfter_circle (n : Nat) : idAfter (n % 255 + 1) = (n + 1) % 255 + 1 := by
  unfold idAfter
  split <;> omega

/-- An id stands on the circle one place before its own number. -/
theorem circle_pred {id : Nat} (h1 : 1 ≤ id) (h2 : id ≤ 255) : (id - 1) % 255 + 1 = id := by omega

theorem idAfter_eq {id : Nat} (h1 : 1 ≤ id) (h2 : id ≤ 255) : idAfter id = id % 255 + 1 := by
  calc idAfter id = idAfter ((id - 1) % 255 + 1) := by rw [circle_pred h1 h2]
    _ = (id - 1 + 1) % 255 + 1 := idAfter_circle _
    _ = id % 255 + 1 := by rw [Nat.sub_add_cancel h1]

/-- The search passes over held values only, and stops before its fuel ends only at a value that no record holds. -/
theorem freeIdFrom_circle (fuel n : Nat) (ts : List TouchRecord) :
    ∃ k ≤ fuel, freeIdFrom fuel (n % 255 + 1) ts = (n + k) % 255 + 1 ∧
      (k < fuel → ∀ r ∈ ts, r.id ≠ (n + k) % 255 + 1) ∧ ∀ j < k, ∃ r ∈ ts, r.id = (n + j) % 255 + 1 := by
  induction fuel generalizing n with
  | zero => exact ⟨0, le_rfl, rfl, fun h => absurd h (Nat.lt_irrefl 0), fun j h => absurd h j.not_lt_zero⟩
  | succ fuel ih =>
    by_cases held : ∃ r ∈ ts, r.id = n % 255 + 1
    · have passes : freeIdFrom (fuel + 1) (n % 255 + 1) ts = freeIdFrom fuel ((n + 1) % 255 + 1) ts := by
        simp [freeIdFrom, held, idAfter_circle]
      obtain ⟨k, hk, value, free, before⟩ := ih (n + 1)
      have shift : ∀ j, n + 1 + j = n + (j + 1) := fun j => by omega
      simp only [shift] at value free before
      refine ⟨k + 1, by omega, passes.trans value, fun h => free (by omega), fun j hj => ?_⟩
      cases j with
      | zero => exact held
      | succ j => exact before j (by omega)
    · have stops : freeIdFrom (fuel + 1) (n % 255 + 1) ts = n % 255 + 1 := by
        simp [freeIdFrom, held]
      exact ⟨0, by omega, stops, fun _ r hr he => held ⟨r, hr, he⟩, fun j h => absurd h j.not_lt_zero⟩

/-- Values that follow one another on the circle are distinct, so the records that hold `m` of them are at least `m`. -/
theorem le_length_of_held (m n : Nat) (ts : List TouchRecord) (hm : m ≤ 255)
    (held : ∀ j < m, ∃ r ∈ ts, r.id = (n + j) % 255 + 1) : m ≤ ts.length := by
  have distinct : ((List.range m).map fun j => (n + j) % 255 + 1).Nodup := by
    refine List.nodup_range.map_on fun i hi j hj he => ?_
    rw [List.mem_range] at hi hj
    omega
  have subset : ((List.range m).map fun j => (n + j) % 255 + 1) ⊆ ts.map TouchRecord.id := by
    intro v hv
    obtain ⟨j, hj, rfl⟩ := List.mem_map.mp hv
    exact List.mem_map.mpr (held j (List.mem_range.mp hj))
  simpa using (List.subperm_of_subset distinct subset).length_le

/-- Where a record of the list holds `id`, as many values after it as the list is long reach one that no record holds. -/
theorem freeIdFrom_idAfter (id : Nat) (ts : List TouchRecord) (h1 : 1 ≤ id) (h2 : id ≤ 255) (hlen : ts.length < 255)
    (given : ∃ r ∈ ts, r.id = id) :
    ∃ k < ts.length, freeIdFrom ts.length (idAfter id) ts = (id + k) % 255 + 1 ∧
      (∀ r ∈ ts, r.id ≠ (id + k) % 255 + 1) ∧ ∀ j < k, ∃ r ∈ ts, r.id = (id + j) % 255 + 1 := by
  rw [idAfter_eq h1 h2]
  obtain ⟨k, hk, value, free, before⟩ := freeIdFrom_circle ts.length id ts
  have stopped : k < ts.length := by
    by_contra ranOut
    have allHeld : ∀ j < ts.length + 1, ∃ r ∈ ts, r.id = (id - 1 + j) % 255 + 1 := by
      intro j hj
      cases j with
      | zero => simpa only [Nat.add_zero, circle_pred h1 h2] using given
      | succ j =>
        rw [show id - 1 + (j + 1) = id + j by omega]
        exact before j (by omega)
    have := le_length_of_held (ts.length + 1) (id - 1) ts (by omega) allHeld
    omega
  exact ⟨k, stopped, value, free stopped, before⟩

/-! ## A creation (R53, R54) -/

/-- A creation where the list has room. -/
theorem createTouch_of_room (t : Tracker) (es : List Event) (w : Winner) (h : t.touches.length < 4) :
    createTouch (t, es) w =
      let ts := t.touches ++ [{ id := t.nextId, position := w.position, strength := w.strength, miss := 0 }]
      ({ touches := ts, nextId := freeIdFrom ts.length (idAfter t.nextId) ts },
        es ++ [.touchDown t.nextId w.position w.strength]) := by
  simp [createTouch, h]

/-! ## Checksum and digest (R63, R64) -/

theorem checksumFrom_eq_sum (k : Nat) (ts : List TouchRecord) :
    checksumFrom k ts =
      ((ts.zipIdx k).map fun x => x.1.id + x.1.position + x.1.miss + 37 * (x.2 + 1)).sum := by
  induction ts generalizing k with
  | nil => rfl
  | cons t rest ih => rw [checksumFrom, ih, List.zipIdx_cons, List.map_cons, List.sum_cons]

theorem Tracker.checksum_lt (t : Tracker) : t.checksum < 256 := Nat.mod_lt _ (by decide)

/-- A list of one record has that record's term at index 0 as its sum. -/
theorem Tracker.checksum_singleton (r : TouchRecord) (n : Nat) :
    ({ touches := [r], nextId := n } : Tracker).checksum = (r.id + r.position + r.miss + 37) % 256 := rfl

/-- With a next id of one byte the digest loses no bit. -/
theorem Tracker.toNat_digest (t : Tracker) (h : t.nextId ≤ 255) : t.digest.toNat = 256 * t.nextId + t.checksum := by
  have := t.checksum_lt
  rw [Tracker.digest, BitVec.toNat_ofNat, Nat.mod_eq_of_lt (by omega)]

end Sys2Proof.Machine
end

section
/-! CLAIMS. The touch list: the clear, the next id after a creation, the checksum and the digest. -/

namespace Sys2Proof.Proofs

open Sys2Proof Sys2Proof.Machine

/-- Settles O48: the whole state after a clear, and the digest of the reset tracker. -/
theorem clearReportsEveryTouchAsLost : Obligations.ClearReportsEveryTouchAsLost := by
  unfold Obligations.ClearReportsEveryTouchAsLost
  intro c s
  refine ⟨s.clearTouches_eq c, ?_⟩
  rw [State.tracker_clearTouches, Tracker.digest_reset]

/-- Settles O49: the record created holds the id given, so the other records, at most three, cannot hold all the values that
the search looks at. -/
theorem nextIdIsTheFirstFreeValue : Obligations.NextIdIsTheFirstFreeValue := by
  unfold Obligations.NextIdIsTheFirstFreeValue
  constructor
  · intro t es w room h1 h2
    rw [createTouch_of_room t es w room]
    dsimp only
    generalize hts : t.touches ++ [{ id := t.nextId, position := w.position, strength := w.strength, miss := 0 }] = ts
    have given : ∃ r ∈ ts, r.id = t.nextId := by simp [← hts]
    have len : ts.length ≤ 4 := by simpa [← hts] using room
    obtain ⟨k, hk, value, free, before⟩ := freeIdFrom_idAfter t.nextId ts h1 h2 (by omega) given
    exact ⟨given, k, by omega, value, free, before⟩
  · intro a b es w ha hb
    constructor <;> simp [createTouch_of_room, freeIdFrom, idAfter, ha, hb]

/-- Settles O50: the sum by induction on the list, the digest by the checksum's bound. -/
theorem checksumAndDigestOfTheList : Obligations.ChecksumAndDigestOfTheList := by
  unfold Obligations.ChecksumAndDigestOfTheList
  refine ⟨fun t => ?_, Tracker.toNat_digest, fun _ => rfl, fun n st => ?_, fun n st => ?_, fun st => ?_,
    Tracker.digest_reset⟩
  · rw [Tracker.checksum, checksumFrom_eq_sum]
  · simp [Tracker.checksum_singleton]
  · simp [Tracker.checksum_singleton]
  · simp [Tracker.digest, Tracker.checksum_singleton]

end Sys2Proof.Proofs
end

section
/-! SUPPORT. The digest passes among several stations: the words a unit drives and reads, a pass in closed form, and what the
two words read tell about the digests driven. -/

namespace Sys2Proof.Machine

/-! ## Pass values as words -/

theorem natOfBits_eq_toNat (l : List Bool) : natOfBits l = (BitVec.ofBoolListBE l).toNat := by
  induction l with
  | nil => rfl
  | cons b l ih => rw [natOfBits_cons, ih, BitVec.ofBoolListBE, BitVec.toNat_cons', Nat.shiftLeft_eq]

/-- The bit read in slot `i` is the bit of the pass value with bit index `i` (R72). -/
theorem getMsbD_passValue (l : List Bool) (h : l.length = 16) (i : Nat) : (passValue l).getMsbD i = l.getD i false := by
  have cast_eq : passValue l = (BitVec.ofBoolListBE l).cast h := by
    apply BitVec.eq_of_toNat_eq
    rw [toNat_passValue l h, natOfBits_eq_toNat, BitVec.toNat_cast]
  rw [cast_eq, BitVec.getMsbD_cast, BitVec.getMsbD_ofBoolListBE]

/-- Sixteen slots in which the line carries the bits of `w` make the pass value `w`. -/
theorem passValue_map_range (f : Nat → Bool) (w : BitVec 16) (h : ∀ i < 16, f i = w.getMsbD i) :
    passValue ((List.range 16).map f) = w := by
  refine BitVec.eq_of_getMsbD_eq fun i hi => ?_
  rw [getMsbD_passValue _ (by simp), ← h i hi]
  simp [hi]

/-- Slots in which the line carries the bits of `v` and a unit drives those of `w` show a difference where the words differ. -/
theorem any_range_bne_iff (f g : Nat → Bool) {v w : BitVec 16} (hf : ∀ i < 16, f i = v.getMsbD i)
    (hg : ∀ i < 16, g i = w.getMsbD i) : ((List.range 16).any fun i => f i != g i) = true ↔ v ≠ w := by
  simp only [List.any_eq_true, List.mem_range, bne_iff_ne]
  constructor
  · rintro ⟨i, hi, bit⟩ rfl
    exact bit ((hf i hi).trans (hg i hi).symm)
  · intro differ
    by_contra noBit
    refine differ (BitVec.eq_of_getMsbD_eq fun i hi => ?_)
    by_contra bit
    exact noBit ⟨i, hi, by rwa [hf i hi, hg i hi]⟩

/-! ## The OR of several words -/

section Or

variable {n : Nat}

/-- The bitwise OR of a list of words. -/
def orOf (ws : List (BitVec n)) : BitVec n := ws.foldl (· ||| ·) 0

theorem getMsbD_foldl_or (ws : List (BitVec n)) (acc : BitVec n) (i : Nat) :
    (ws.foldl (· ||| ·) acc).getMsbD i = (acc.getMsbD i || ws.any fun w => w.getMsbD i) := by
  induction ws generalizing acc with
  | nil => simp
  | cons w ws ih => rw [List.foldl_cons, ih, BitVec.getMsbD_or, List.any_cons, Bool.or_assoc]

theorem getMsbD_orOf (ws : List (BitVec n)) (i : Nat) : (orOf ws).getMsbD i = ws.any fun w => w.getMsbD i := by
  simp [orOf, getMsbD_foldl_or]

/-- One word of all ones makes the OR all ones. -/
theorem orOf_eq_allOnes {ws : List (BitVec n)} (h : BitVec.allOnes n ∈ ws) : orOf ws = BitVec.allOnes n := by
  refine BitVec.eq_of_getMsbD_eq fun i hi => ?_
  rw [getMsbD_orOf, BitVec.getMsbD_allOnes, List.any_eq_true.mpr ⟨_, h, by simpa using hi⟩, decide_eq_true hi]

theorem orOf_eq_of_forall {ws : List (BitVec n)} {w : BitVec n} (hne : ws ≠ []) (h : ∀ v ∈ ws, v = w) : orOf ws = w := by
  refine BitVec.eq_of_getMsbD_eq fun i _ => ?_
  obtain ⟨v, hv⟩ := List.exists_mem_of_ne_nil ws hne
  rw [getMsbD_orOf, Bool.eq_iff_iff, List.any_eq_true]
  constructor
  · rintro ⟨u, hu, bit⟩
    rwa [h u hu] at bit
  · exact fun bit => ⟨v, hv, by rwa [h v hv]⟩

theorem foldl_or_not (ws : List (BitVec n)) (acc : BitVec n) :
    (ws.map fun w => ~~~ w).foldl (· ||| ·) (~~~ acc) = ~~~ ws.foldl (· &&& ·) acc := by
  induction ws generalizing acc with
  | nil => rfl
  | cons w ws ih => rw [List.map_cons, List.foldl_cons, List.foldl_cons, ← BitVec.not_and, ih]

/-- The OR of the complements is the complement of the AND (R74). -/
theorem orOf_map_not (ws : List (BitVec n)) :
    orOf (ws.map fun w => ~~~ w) = ~~~ ws.foldl (· &&& ·) (BitVec.allOnes n) := by
  rw [← foldl_or_not, BitVec.not_allOnes]
  rfl

/-- A word is both the OR and, by its complement, the AND of the words only where every one of them is it: a bit that is 1 in
one word shows in the OR, and a bit that is 0 in the OR of the complements (R74). -/
theorem orOf_eq_and_orOf_not_eq_iff {ws : List (BitVec n)} (w : BitVec n) (hne : ws ≠ []) :
    (orOf ws = w ∧ orOf (ws.map fun v => ~~~ v) = ~~~ w) ↔ ∀ v ∈ ws, v = w := by
  constructor
  · rintro ⟨rfl, complements⟩ v hv
    refine BitVec.eq_of_getMsbD_eq fun i hi => ?_
    cases bit : v.getMsbD i with
    | true => rw [getMsbD_orOf, List.any_eq_true.mpr ⟨v, hv, bit⟩]
    | false =>
      have shows : (orOf (ws.map fun v => ~~~ v)).getMsbD i = true := by
        rw [getMsbD_orOf, List.any_eq_true]
        exact ⟨~~~ v, List.mem_map_of_mem hv, by simp [hi, bit]⟩
      rw [complements, BitVec.getMsbD_not, Bool.and_eq_true, Bool.not_eq_true'] at shows
      exact shows.2.symm
  · intro h
    refine ⟨orOf_eq_of_forall hne h, orOf_eq_of_forall (by simpa using hne) fun c hc => ?_⟩
    obtain ⟨v, hv, rfl⟩ := List.mem_map.mp hc
    rw [h v hv]

/-- A driver of `w` reads another word in one of the passes where the words driven are not all the same (R74). -/
theorem orOf_ne_or_orOf_not_ne_iff {ws : List (BitVec n)} {w : BitVec n} (hw : w ∈ ws) :
    (orOf ws ≠ w ∨ orOf (ws.map fun v => ~~~ v) ≠ ~~~ w) ↔ ∃ v ∈ ws, ∃ u ∈ ws, v ≠ u := by
  rw [← not_and_or, orOf_eq_and_orOf_not_eq_iff w (List.ne_nil_of_mem hw)]
  constructor
  · intro h
    obtain ⟨v, hv, ne⟩ := by simpa using h
    exact ⟨v, hv, w, hw, ne⟩
  · rintro ⟨v, hv, u, hu, ne⟩ all
    exact ne ((all v hv).trans (all u hu).symm)

end Or

/-- The two readings are complements of each other where one value was driven and none beside it (R74, R77). -/
theorem orOf_not_eq_not_orOf_iff (ws : List (BitVec 16)) :
    orOf (ws.map fun v => ~~~ v) = ~~~ orOf ws ↔ ws ≠ [] ∧ ∀ v ∈ ws, ∀ u ∈ ws, v = u := by
  rcases eq_or_ne ws [] with rfl | hne
  · exact ⟨fun h => absurd h (by decide), fun h => absurd rfl h.1⟩
  · have key := orOf_eq_and_orOf_not_eq_iff (orOf ws) hne
    constructor
    · intro h
      have all := key.mp ⟨rfl, h⟩
      exact ⟨hne, fun v hv u hu => (all v hv).trans (all u hu).symm⟩
    · rintro ⟨-, same⟩
      refine (key.mpr fun v hv => ?_).2
      exact (orOf_eq_of_forall hne fun u hu => same u hu v hv).symm

/-! ## What a unit drives (R71) -/

/-- A digest as a pass shows it: itself in pass A, its complement in pass B. -/
def inPass (passB : Bool) (d : BitVec 16) : BitVec 16 := if passB then ~~~ d else d

@[simp] theorem inPass_false (d : BitVec 16) : inPass false d = d := rfl

@[simp] theorem inPass_true (d : BitVec 16) : inPass true d = ~~~ d := rfl

theorem getMsbD_inPass (passB : Bool) (d : BitVec 16) {i : Nat} (hi : i < 16) :
    (inPass passB d).getMsbD i = (d.getMsbD i != passB) := by
  cases passB <;> simp [hi]

/-- The sixteen bits a unit drives in a pass, as a word; a slot it leaves alone counts as 0. -/
def Agreement.driveWord (passB : Bool) (a : Agreement) : BitVec 16 :=
  match a.part with
  | some .member => inPass passB (a.latched.getD 0)
  | some .forcing => BitVec.allOnes 16
  | some .listener | some .silent | none => 0

theorem Agreement.driveWord_member {a : Agreement} {d : BitVec 16} (passB : Bool) (hp : a.part = some .member)
    (hd : a.latched = some d) : a.driveWord passB = inPass passB d := by
  simp [driveWord, hp, hd]

theorem Agreement.driveWord_forcing {a : Agreement} (passB : Bool) (hp : a.part = some .forcing) :
    a.driveWord passB = BitVec.allOnes 16 := by
  simp [driveWord, hp]

theorem Agreement.driveWord_eq_zero {a : Agreement} (passB : Bool) (hm : a.part ≠ some .member)
    (hf : a.part ≠ some .forcing) : a.driveWord passB = 0 := by
  unfold driveWord
  split
  case h_1 hp => exact absurd hp hm
  case h_2 hp => exact absurd hp hf
  all_goals rfl

theorem Agreement.drives_eq_getMsbD (passB : Bool) (a : Agreement) {i : Nat} (hi : i < 16) :
    a.drives passB i = (a.driveWord passB).getMsbD i := by
  unfold drives driveWord
  cases a.part with
  | none => simp
  | some part =>
    cases part with
    | member => exact (getMsbD_inPass passB _ hi).symm
    | forcing => rw [BitVec.getMsbD_allOnes, decide_eq_true hi]
    | listener => simp
    | silent => simp

/-- The digest a unit drives, if it is a member. -/
def Agreement.drivenDigest (a : Agreement) : Option (BitVec 16) :=
  if a.part = some .member then a.latched else none

/-- The digests driven among several units. -/
def drivenDigests (units : List Agreement) : List (BitVec 16) := units.filterMap Agreement.drivenDigest

theorem mem_drivenDigests {units : List Agreement} {a : Agreement} {d : BitVec 16} (ha : a ∈ units)
    (hp : a.part = some .member) (hd : a.latched = some d) : d ∈ drivenDigests units :=
  List.mem_filterMap.mpr ⟨a, ha, by simp [Agreement.drivenDigest, hp, hd]⟩

/-! ## What the line carries -/

/-- The level of the line in a digest slot: the OR of what the units drive. -/
def lineLevel (passB : Bool) (units : List Agreement) (i : Nat) : Bool := units.any fun a => a.drives passB i

/-- The sixteen levels of a pass as a word. -/
def lineWord (passB : Bool) (units : List Agreement) : BitVec 16 := orOf (units.map (Agreement.driveWord passB))

theorem lineLevel_eq_getMsbD (passB : Bool) (units : List Agreement) {i : Nat} (hi : i < 16) :
    lineLevel passB units i = (lineWord passB units).getMsbD i := by
  simp only [lineLevel, lineWord, getMsbD_orOf, List.any_map, Agreement.drives_eq_getMsbD passB _ hi, Function.comp_def]

theorem lineWord_of_forcing (passB : Bool) {units : List Agreement} {a : Agreement} (ha : a ∈ units)
    (hp : a.part = some .forcing) : lineWord passB units = BitVec.allOnes 16 :=
  orOf_eq_allOnes (List.mem_map.mpr ⟨a, ha, a.driveWord_forcing passB hp⟩)

/-- Without a forcing listener the line carries the OR of the digests driven, each as the pass shows it. -/
theorem lineWord_of_no_forcing (passB : Bool) (units : List Agreement)
    (latched : ∀ a ∈ units, a.part = some .member → a.latched.isSome = true) (noForcing : ∀ a ∈ units, a.part ≠ some .forcing) :
    lineWord passB units = orOf ((drivenDigests units).map (inPass passB)) := by
  unfold lineWord orOf
  generalize (0 : BitVec 16) = acc
  induction units generalizing acc with
  | nil => rfl
  | cons a units ih =>
    obtain ⟨latchedHere, latchedRest⟩ := List.forall_mem_cons.mp latched
    obtain ⟨noForcingHere, noForcingRest⟩ := List.forall_mem_cons.mp noForcing
    have rest := ih latchedRest noForcingRest
    rw [List.map_cons, List.foldl_cons, rest]
    by_cases hp : a.part = some .member
    · obtain ⟨d, hd⟩ := Option.isSome_iff_exists.mp (latchedHere hp)
      simp [drivenDigests, Agreement.drivenDigest, Agreement.driveWord_member passB hp hd, hp, hd]
    · simp [drivenDigests, Agreement.drivenDigest, Agreement.driveWord_eq_zero passB hp noForcingHere, hp]

/-! ## A pass in closed form (R72) -/

@[simp] theorem Agreement.drives_recordSlot (c passB dat drove : Bool) (i : Nat) (a : Agreement) :
    (a.recordSlot passB dat drove).drives c i = a.drives c i := rfl

@[simp] theorem lineLevel_digestSlot (c passB : Bool) (i : Nat) (units : List Agreement) :
    lineLevel c (digestSlot passB i units) = lineLevel c units := by
  funext j
  simp only [lineLevel, digestSlot, List.any_map, Function.comp_def, Agreement.drives_recordSlot]

/-- A unit after the slots `is` of one pass, in which the line carries the levels `dat`. -/
def Agreement.afterSlots (passB : Bool) (dat : Nat → Bool) (is : List Nat) (a : Agreement) : Agreement :=
  { a with
    passA := if passB then a.passA else a.passA ++ is.map dat
    passB := if passB then a.passB ++ is.map dat else a.passB
    difference := a.difference || (a.isDriver && is.any fun i => dat i != a.drives passB i) }

@[simp] theorem Agreement.drives_afterSlots (c passB : Bool) (dat : Nat → Bool) (is : List Nat) (i : Nat) (a : Agreement) :
    (a.afterSlots passB dat is).drives c i = a.drives c i := rfl

theorem Agreement.afterSlots_nil (passB : Bool) (dat : Nat → Bool) (a : Agreement) : a.afterSlots passB dat [] = a := by
  simp [afterSlots]

theorem Agreement.afterSlots_cons (passB : Bool) (dat : Nat → Bool) (i : Nat) (is : List Nat) (a : Agreement) :
    a.afterSlots passB dat (i :: is) = (a.recordSlot passB (dat i) (a.drives passB i)).afterSlots passB dat is := by
  have driver : (a.recordSlot passB (dat i) (a.drives passB i)).isDriver = a.isDriver := rfl
  simp only [afterSlots, driver, drives_recordSlot]
  cases passB <;> simp [recordSlot, Bool.and_or_distrib_left, Bool.or_assoc]

/-- The units keep driving what they drove, so that each slot of a pass finds the line as the units before the pass drive it. -/
theorem foldl_digestSlot (passB : Bool) (is : List Nat) (units : List Agreement) :
    is.foldl (fun us i => digestSlot passB i us) units =
      units.map (Agreement.afterSlots passB (lineLevel passB units) is) := by
  induction is generalizing units with
  | nil => exact (List.map_id' units).symm.trans (List.map_congr_left fun a _ => (a.afterSlots_nil passB _).symm)
  | cons i is ih =>
    rw [List.foldl_cons, ih, lineLevel_digestSlot, digestSlot, List.map_map]
    exact List.map_congr_left fun a _ => (a.afterSlots_cons passB (lineLevel passB units) i is).symm

/-- A unit after both passes. -/
def Agreement.afterPasses (datA datB : Nat → Bool) (a : Agreement) : Agreement :=
  (a.afterSlots false datA (List.range 16)).afterSlots true datB (List.range 16)

theorem Agreement.passA_afterPasses (datA datB : Nat → Bool) (a : Agreement) :
    (a.afterPasses datA datB).passA = a.passA ++ (List.range 16).map datA := rfl

theorem Agreement.passB_afterPasses (datA datB : Nat → Bool) (a : Agreement) :
    (a.afterPasses datA datB).passB = a.passB ++ (List.range 16).map datB := rfl

theorem Agreement.difference_afterPasses (datA datB : Nat → Bool) (a : Agreement) :
    (a.afterPasses datA datB).difference =
      (a.difference || a.isDriver && ((List.range 16).any fun i => datA i != a.drives false i) ||
        a.isDriver && (List.range 16).any fun i => datB i != a.drives true i) := rfl

theorem digestPasses_eq (units : List Agreement) :
    digestPasses units = units.map (Agreement.afterPasses (lineLevel false units) (lineLevel true units)) := by
  have sameLine : lineLevel true (units.map (Agreement.afterSlots false (lineLevel false units) (List.range 16))) =
      lineLevel true units := by
    funext i
    simp only [lineLevel, List.any_map, Function.comp_def, Agreement.drives_afterSlots]
  rw [digestPasses, foldl_digestSlot, foldl_digestSlot, sameLine, List.map_map]
  rfl

/-! ## What a unit has read after the passes -/

/-- A unit before the passes: no difference mark and no bit read. -/
def Agreement.Unread (a : Agreement) : Prop := a.difference = false ∧ a.passA = [] ∧ a.passB = []

/-- `after` is the unit `a` when the line has carried the words `wA` and `wB` in the two passes: it has read them, and has its
difference mark where it drove another word (R72). -/
structure Agreement.HasRead (wA wB : BitVec 16) (a after : Agreement) : Prop where
  part : after.part = a.part
  passA : passValue after.passA = wA
  passB : passValue after.passB = wB
  difference : after.difference = true ↔ a.isDriver = true ∧ (wA ≠ a.driveWord false ∨ wB ≠ a.driveWord true)

theorem any_range_lineLevel_bne_drives_iff (passB : Bool) (units : List Agreement) (a : Agreement) :
    ((List.range 16).any fun i => lineLevel passB units i != a.drives passB i) = true ↔
      lineWord passB units ≠ a.driveWord passB :=
  any_range_bne_iff _ _ (fun _ => lineLevel_eq_getMsbD passB units) fun _ => a.drives_eq_getMsbD passB

/-- After the passes every unit has read the line's two words. -/
theorem hasRead_of_mem_digestPasses {units : List Agreement} (unread : ∀ a ∈ units, a.Unread) {after : Agreement}
    (h : after ∈ digestPasses units) :
    ∃ a ∈ units, a.HasRead (lineWord false units) (lineWord true units) after := by
  rw [digestPasses_eq] at h
  obtain ⟨a, ha, rfl⟩ := List.mem_map.mp h
  obtain ⟨noMark, noA, noB⟩ := unread a ha
  refine ⟨a, ha, rfl, ?_, ?_, ?_⟩
  · rw [Agreement.passA_afterPasses, noA]
    exact passValue_map_range _ _ fun _ => lineLevel_eq_getMsbD false units
  · rw [Agreement.passB_afterPasses, noB]
    exact passValue_map_range _ _ fun _ => lineLevel_eq_getMsbD true units
  · simp only [Agreement.difference_afterPasses, noMark, Bool.false_or, Bool.or_eq_true, Bool.and_eq_true,
      any_range_lineLevel_bne_drives_iff, and_or_left]

namespace Agreement.HasRead

variable {wA wB : BitVec 16} {a after : Agreement}

theorem agrees_iff (read : a.HasRead wA wB after) : after.agrees = true ↔ wB = ~~~ wA := by
  rw [Agreement.agrees, beq_iff_eq, read.passA, read.passB]

/-- A member has its difference mark where it read another word than its digest or than its complement. -/
theorem difference_member (read : a.HasRead wA wB after) {d : BitVec 16} (hp : a.part = some .member)
    (hd : a.latched = some d) : after.difference = true ↔ wA ≠ d ∨ wB ≠ ~~~ d := by
  simp [read.difference, Agreement.isDriver, driveWord_member _ hp hd, hp]

/-- A forcing listener has its difference mark where a slot was not dominant. -/
theorem difference_forcing (read : a.HasRead wA wB after) (hp : a.part = some .forcing) :
    after.difference = true ↔ wA ≠ BitVec.allOnes 16 ∨ wB ≠ BitVec.allOnes 16 := by
  simp [read.difference, Agreement.isDriver, driveWord_forcing _ hp, hp]

end Agreement.HasRead

end Sys2Proof.Machine
end

section
/-! CLAIMS. Agreement and membership: what the digest passes show to every driver and reader. -/

namespace Sys2Proof.Proofs

open Sys2Proof Sys2Proof.Machine

section Passes

variable {units : List Agreement} {after : Agreement}

/-- The passes without a forcing listener: the line carries the OR of the digests driven, and then of their complements. -/
theorem digestPasses_without_forcing (latched : ∀ a ∈ units, a.part = some .member → a.latched.isSome = true)
    (unread : ∀ a ∈ units, a.Unread) (noForcing : ∀ a ∈ units, a.part ≠ some .forcing) (h : after ∈ digestPasses units) :
    passValue after.passA = orOf (drivenDigests units) ∧
    passValue after.passB = orOf ((drivenDigests units).map fun d => ~~~ d) ∧
    (after.part = some .member →
      (after.difference = true ↔ ∃ d ∈ drivenDigests units, ∃ e ∈ drivenDigests units, d ≠ e)) ∧
    (after.agrees = true ↔
      drivenDigests units ≠ [] ∧ ∀ d ∈ drivenDigests units, ∀ e ∈ drivenDigests units, d = e) := by
  have lineA : lineWord false units = orOf (drivenDigests units) :=
    (lineWord_of_no_forcing false units latched noForcing).trans (congrArg orOf (List.map_id' _))
  have lineB : lineWord true units = orOf ((drivenDigests units).map fun d => ~~~ d) :=
    lineWord_of_no_forcing true units latched noForcing
  obtain ⟨a, ha, read⟩ := hasRead_of_mem_digestPasses unread h
  rw [lineA, lineB] at read
  refine ⟨read.passA, read.passB, fun member => ?_, read.agrees_iff.trans (orOf_not_eq_not_orOf_iff _)⟩
  rw [read.part] at member
  obtain ⟨d, hd⟩ := Option.isSome_iff_exists.mp (latched a ha member)
  exact (read.difference_member member hd).trans (orOf_ne_or_orOf_not_ne_iff (mem_drivenDigests ha member hd))

/-- The passes with a forcing listener: every slot is dominant, and no digest is all ones together with its complement. -/
theorem digestPasses_with_forcing (latched : ∀ a ∈ units, a.part = some .member → a.latched.isSome = true)
    (unread : ∀ a ∈ units, a.Unread) (forcing : ∃ a ∈ units, a.part = some .forcing) (h : after ∈ digestPasses units) :
    passValue after.passA = 0xFFFF ∧ passValue after.passB = 0xFFFF ∧ after.agrees = false ∧
    (after.part = some .member → after.difference = true) ∧
    (after.part = some .forcing → after.difference = false) := by
  obtain ⟨f, hf, isForcing⟩ := forcing
  obtain ⟨a, ha, read⟩ := hasRead_of_mem_digestPasses unread h
  rw [lineWord_of_forcing false hf isForcing, lineWord_of_forcing true hf isForcing] at read
  refine ⟨read.passA, read.passB, ?_, fun member => ?_, fun forces => ?_⟩
  · rw [Bool.eq_false_iff, Ne, read.agrees_iff]
    decide
  · rw [read.part] at member
    obtain ⟨d, hd⟩ := Option.isSome_iff_exists.mp (latched a ha member)
    rw [read.difference_member member hd, ← not_and_or]
    rintro ⟨rfl, complement⟩
    exact absurd complement (by decide)
  · rw [read.part] at forces
    rw [Bool.eq_false_iff, Ne, read.difference_forcing forces]
    simp

end Passes

/-- Settles O53: each slot's level is the OR of what the units drive, so that the two words read tell whether the digests
driven are one value (R74). -/
theorem digestPassesShowEveryDisagreement : Obligations.DigestPassesShowEveryDisagreement := by
  unfold Obligations.DigestPassesShowEveryDisagreement
  intro units start digests
  have latched : ∀ a ∈ units, a.part = some .member → a.latched.isSome = true := fun a ha => (start a ha).1
  have unread : ∀ a ∈ units, a.Unread := fun a ha => (start a ha).2
  constructor
  · intro noForcing after h
    obtain ⟨readsA, readsB, mark, agrees⟩ := digestPasses_without_forcing latched unread noForcing h
    exact ⟨readsA, readsB, readsB.trans (orOf_map_not _), mark, agrees⟩
  · exact fun forcing after h => digestPasses_with_forcing latched unread forcing h

end Sys2Proof.Proofs
end

section
/-! SUPPORT. The presence slots: a rise that ends a slot in time, and the rows of R94 for an entry and for the record queued. -/

namespace Sys2Proof.Machine

/-- A rise that ends a slot in time completes the slot on a line that is high again. -/
theorem exec_syncRise_of_slot (low : Nat) (dat : Bool) (s : State) (slotLow : SlotLow low s)
    (slot : s.bus.phase.isSlot = true) :
    exec (.syncRise low dat) s =
      .next (State.completeSlot dat { s with bus :=
        { s.bus with
          lineLow := false, lowTicks := max s.bus.lowTicks low, stuckReported := false, driveBreakSeen := false } }) := by
  obtain ⟨lineLow, inTime⟩ := slotLow
  have arm : exec (.syncRise low dat) s = execSyncRise low dat s := rfl
  rw [arm, execSyncRise, if_pos lineLow, State.rise_of_slot s low dat inTime slot]

/-! ## The rows of R94 -/

@[simp] theorem PeerEntry.update_dominant (stamp : Stamp) (p : PeerEntry) :
    p.update stamp true = { state := .present, miss := 0, lastPresent := stamp } := rfl

theorem PeerEntry.update_of_absent (stamp : Stamp) (p : PeerEntry) (h : p.state = .absent) :
    p.update stamp false = { p with miss := 0 } := by
  simp [PeerEntry.update, h]

theorem PeerEntry.update_of_present (stamp : Stamp) (p : PeerEntry) (h : p.state = .present) :
    p.update stamp false = { p with state := .missing, miss := 1 } := by
  simp [PeerEntry.update, h]

/-- Below two misses a missing peer is missed once more. -/
theorem PeerEntry.update_of_missing_lt (stamp : Stamp) (p : PeerEntry) (h : p.state = .missing) (few : p.miss < 2) :
    p.update stamp false = { p with miss := p.miss + 1 } := by
  simp [PeerEntry.update, h, few]

/-- The third miss in a row makes the peer absent. -/
theorem PeerEntry.update_of_missing_ge (stamp : Stamp) (p : PeerEntry) (h : p.state = .missing) (many : 2 ≤ p.miss) :
    p.update stamp false = { p with state := .absent, miss := 0 } := by
  simp [PeerEntry.update, h, Nat.not_lt.mpr many]

theorem PeerEntry.updateEvent_of_absent (a : Nat) (dat : Bool) (p : PeerEntry) (h : p.state = .absent) :
    p.updateEvent a dat = if dat then some (.peerJoin a) else none := by
  simp [PeerEntry.updateEvent, h]

theorem PeerEntry.updateEvent_of_present (a : Nat) (dat : Bool) (p : PeerEntry) (h : p.state = .present) :
    p.updateEvent a dat = none := by
  simp [PeerEntry.updateEvent, h]

theorem PeerEntry.updateEvent_of_missing (a : Nat) (dat : Bool) (p : PeerEntry) (h : p.state = .missing) :
    p.updateEvent a dat = if dat = false ∧ 2 ≤ p.miss then some (.peerLeave a) else none := by
  simp [PeerEntry.updateEvent, h]

/-! ## A presence slot completes -/

/-- The slot of an address in range updates its entry and its place in the map, and queues the update's record. -/
theorem State.presenceResult_eq (a : Fin 32) (dat : Bool) (s : State) :
    s.presenceResult a dat =
      { s.recordAll (s.peers.entries[a].updateEvent a dat).toList with peers :=
        { entries := s.peers.entries.set a (s.peers.entries[a].update s.bus.stamp dat)
          presence := s.peers.presence.set a (some dat) } } := by
  simp [State.presenceResult, State.recordAll_eq, Vector.setIfInBounds, Vector.set, Array.setIfInBounds]

/-- The value of a presence slot goes to the peer table; after the slot of address 31 the phase is CLAIM (R5). -/
theorem State.slotResult_of_presence (a : Fin 32) (dat : Bool) (s : State) (presence : s.bus.phase = .presence)
    (index : s.bus.slotIndex = 1 + a.val) :
    s.slotResult dat =
      { s.presenceResult a dat with bus := { s.bus with phase := if a.val = 31 then .claim else .presence } } := by
  have address : s.bus.slotIndex - 1 = a.val := by omega
  have bus : (s.presenceResult a dat).bus = s.bus := by simp [State.presenceResult_eq]
  simp only [State.slotResult, presence, State.presenceSlotResult, address]
  by_cases last : a.val = 31
  · have notBelow : ¬ s.bus.slotIndex < 32 := by omega
    rw [if_neg notBelow, if_pos last, bus]
  · have below : s.bus.slotIndex < 32 := by omega
    rw [if_pos below, if_neg last, ← presence, ← bus]

/-- A presence slot's rise: the end of a slot, with the update of R94 (R91, R94), and after address 31 the phase CLAIM (R5). -/
theorem exec_syncRise_of_presence (low : Nat) (dat : Bool) (a : Fin 32) (s : State) (slotLow : SlotLow low s)
    (presence : s.bus.phase = .presence) (index : s.bus.slotIndex = 1 + a.val) :
    exec (.syncRise low dat) s =
      .next { (s.slotEnded low).recordAll (s.peers.entries[a].updateEvent a dat).toList with
        bus := { (s.slotEnded low).bus with phase := if a.val = 31 then .claim else .presence }
        peers := { entries := s.peers.entries.set a (s.peers.entries[a].update s.bus.stamp dat)
                   presence := s.peers.presence.set a (some dat) } } := by
  have slot : s.bus.phase.isSlot = true := by rw [presence]; rfl
  have staysInSlots : (if a.val = 31 then Phase.claim else .presence).isSlot = true := by split <;> rfl
  rw [exec_syncRise_of_slot low dat s slotLow slot, State.completeSlot, State.slotResult_of_presence a dat]
  case presence => exact presence
  case index => exact index
  simp only [State.presenceResult_eq, State.recordAll_eq, staysInSlots, if_true]
  rfl

end Sys2Proof.Machine
end

section
/-! CLAIMS. Presence and the peer table: what a presence slot does to the entry of its address. -/

namespace Sys2Proof.Proofs

open Sys2Proof Sys2Proof.Machine

/-- Settles O31: the slot's rise in closed form, at each row of R94's table. -/
theorem presenceSlotUpdatesTheEntry : Obligations.PresenceSlotUpdatesTheEntry := by
  unfold Obligations.PresenceSlotUpdatesTheEntry
  intro low dat a s slotLow presence index p done becomes
  have row (q : PeerEntry) (e : Option Event) (entry : p.update s.bus.stamp dat = q) (event : p.updateEvent a dat = e) :
      becomes q (done.recordAll e.toList) := by
    subst entry event
    exact exec_syncRise_of_presence low dat a s slotLow presence index
  refine ⟨?_, ?_, ?_, ?_, ?_, ?_, ?_⟩
  · rintro rfl absent
    exact row _ (some (.peerJoin a)) (p.update_dominant _) (p.updateEvent_of_absent a true absent)
  · rintro rfl absent
    exact row _ none (p.update_of_absent _ absent) (p.updateEvent_of_absent a false absent)
  · rintro rfl present
    exact row _ none (p.update_dominant _) (p.updateEvent_of_present a true present)
  · rintro rfl present
    exact row _ none (p.update_of_present _ present) (p.updateEvent_of_present a false present)
  · rintro rfl missing once
    refine row _ none ?_ ?_
    · rw [p.update_of_missing_lt _ missing (by omega), once]
    · simp [p.updateEvent_of_missing a false missing, once]
  · rintro rfl missing twice
    refine row _ (some (.peerLeave a)) (p.update_of_missing_ge _ missing twice.ge) ?_
    simp [p.updateEvent_of_missing a false missing, twice]
  · rintro rfl missing
    exact row _ none (p.update_dominant _) (by simp [p.updateEvent_of_missing a true missing])

end Sys2Proof.Proofs
end

section
/-! SUPPORT. Rules of one channel's update: the filter state by state, the baseline by the range of the delta, and the update
by the result and the channel's state. -/

namespace Sys2Proof.Machine

/-! ## The filter (R121) -/

theorem filterStep_idle_of_lt {touch : Nat} {delta : Int} (below : delta < touch) (release depth k : Nat) :
    filterStep touch release depth .idle k delta = (.idle, 0) := by
  rw [filterStep, if_pos below]

theorem filterStep_idle_of_le {touch : Nat} {delta : Int} (reached : touch ≤ delta) (release depth k : Nat) :
    filterStep touch release depth .idle k delta = if depth = 1 then (.touched, 0) else (.pendingTouch, 1) := by
  rw [filterStep, if_neg (Int.not_lt.mpr reached)]

theorem filterStep_pendingTouch_of_lt {touch : Nat} {delta : Int} (below : delta < touch) (release depth k : Nat) :
    filterStep touch release depth .pendingTouch k delta = (.idle, 0) := by
  rw [filterStep, if_pos below]

theorem filterStep_pendingTouch_of_le {touch : Nat} {delta : Int} (reached : touch ≤ delta) (release depth k : Nat) :
    filterStep touch release depth .pendingTouch k delta =
      if k + 1 < depth then (.pendingTouch, k + 1) else (.touched, 0) := by
  rw [filterStep, if_neg (Int.not_lt.mpr reached)]

theorem filterStep_touched_of_le {release : Nat} {delta : Int} (kept : release ≤ delta) (touch depth k : Nat) :
    filterStep touch release depth .touched k delta = (.touched, 0) := by
  rw [filterStep, if_pos kept]

theorem filterStep_touched_of_lt {release : Nat} {delta : Int} (below : delta < release) (touch depth k : Nat) :
    filterStep touch release depth .touched k delta = if depth = 1 then (.idle, 0) else (.pendingRelease, 1) := by
  rw [filterStep, if_neg (Int.not_le.mpr below)]

theorem filterStep_pendingRelease_of_le {release : Nat} {delta : Int} (kept : release ≤ delta) (touch depth k : Nat) :
    filterStep touch release depth .pendingRelease k delta = (.touched, 0) := by
  rw [filterStep, if_pos kept]

theorem filterStep_pendingRelease_of_lt {release : Nat} {delta : Int} (below : delta < release) (touch depth k : Nat) :
    filterStep touch release depth .pendingRelease k delta =
      if k + 1 < depth then (.pendingRelease, k + 1) else (.idle, 0) := by
  rw [filterStep, if_neg (Int.not_le.mpr below)]

/-! ## The baseline (R122, R123) -/

/-- The step as R122 gives it: the quotient, taken as 1 where it is 0. -/
theorem trackingStep_eq (baseline sample : Nat) :
    max 1 (distance sample baseline / 16) =
      if ((sample : Int) - baseline).natAbs / 16 = 0 then 1 else ((sample : Int) - baseline).natAbs / 16 := by
  rw [distance_eq_natAbs]
  split <;> omega

/-- A step is at least 1 and at most the whole difference, so a baseline that moves reaches the sample or stops before it. -/
theorem trackingStep_le_distance {baseline sample : Nat} (differ : baseline ≠ sample) :
    max 1 (distance sample baseline / 16) ≤ distance sample baseline := by
  rw [distance_eq_natAbs]
  omega

theorem trackBaseline_self (v : Nat) : trackBaseline v v = v := by
  simp [trackBaseline]

/-- A sample above the baseline: the limit at the sample never cuts the step. -/
theorem trackBaseline_of_lt {baseline sample : Nat} (above : baseline < sample) :
    trackBaseline baseline sample = baseline + max 1 (distance sample baseline / 16) ∧
      trackBaseline baseline sample ≤ sample := by
  have within := trackingStep_le_distance above.ne
  have gap : distance sample baseline = sample - baseline := if_neg (Nat.not_le.mpr above)
  simp only [trackBaseline, if_pos above]
  omega

/-- A sample below the baseline: the limit at the sample never cuts the step. -/
theorem trackBaseline_of_gt {baseline sample : Nat} (below : sample < baseline) :
    trackBaseline baseline sample = baseline - max 1 (distance sample baseline / 16) ∧
      sample ≤ trackBaseline baseline sample := by
  have within := trackingStep_le_distance below.ne'
  have gap : distance sample baseline = baseline - sample := if_pos below.le
  simp only [trackBaseline, if_neg below.not_gt, if_pos below]
  omega

theorem followBaseline_of_ne_idle {st : ChannelState} (busy : st ≠ .idle) (touch depth base reverse v : Nat)
    (delta : Int) : followBaseline touch depth st base reverse v delta = (base, reverse) := by
  rw [followBaseline, if_neg busy]

/-- A reverse sample in IDLE counts, and at the filter depth becomes the baseline (R123). -/
theorem followBaseline_idle_of_reverse {touch : Nat} {delta : Int} (far : delta ≤ -(touch : Int))
    (depth base reverse v : Nat) :
    followBaseline touch depth .idle base reverse v delta =
      if depth ≤ reverse + 1 then (v, 0) else (base, reverse + 1) := by
  rw [followBaseline, if_pos rfl, if_pos far]

/-- A delta strictly within the touch threshold moves the baseline one step (R122). -/
theorem followBaseline_idle_of_within {touch : Nat} {delta : Int} (low : -(touch : Int) < delta) (high : delta < touch)
    (depth base reverse v : Nat) :
    followBaseline touch depth .idle base reverse v delta = (trackBaseline base v, 0) := by
  rw [followBaseline, if_pos rfl, if_neg (Int.not_le.mpr low), if_pos high]

/-- A sample that begins a touch leaves the baseline where it is. -/
theorem followBaseline_idle_of_touch {touch : Nat} {delta : Int} (positive : 0 < touch) (reached : touch ≤ delta)
    (depth base reverse v : Nat) :
    followBaseline touch depth .idle base reverse v delta = (base, 0) := by
  have notReverse : ¬ delta ≤ -(touch : Int) := by omega
  rw [followBaseline, if_pos rfl, if_neg notReverse, if_neg (Int.not_lt.mpr reached)]

/-! ## One channel's update (R118 to R120, R124) -/

/-- Entering CALIBRATING gives the entry of R126. -/
theorem ChannelEntry.enterCalibrating_eq (c : ChannelEntry) : c.enterCalibrating = c.calibrating := rfl

@[simp] theorem updateChannel_none (r : ConfigRecord) (n : Fin 8) (c : ChannelEntry) :
    updateChannel r n none c = ({ c with lastResult := none }, none) := rfl

theorem updateChannel_of_calibrating (r : ConfigRecord) (n : Fin 8) (v : Nat) (c : ChannelEntry)
    (h : c.state = .calibrating) :
    updateChannel r n (some v) c =
      (c.calibrate v, if c.calCount < 3 then none else some (.channel n.val .calibrated)) := by
  simp only [updateChannel, h]

/-- The four states of a channel that has a baseline share one update (R120 to R124). -/
theorem updateChannel_of_baseline (r : ConfigRecord) (n : Fin 8) (v : Nat) (c : ChannelEntry)
    (h : c.state = .idle ∨ c.state = .pendingTouch ∨ c.state = .touched ∨ c.state = .pendingRelease) :
    updateChannel r n (some v) c =
      if (c.filterSample r n v).overHeld (cfgHoldLimit r) then
        ((c.filterSample r n v).calibrating, some (.channel n.val .holdLimit))
      else (c.filterSample r n v, none) := by
  rcases h with h | h | h | h <;> simp only [updateChannel, h, ChannelEntry.enterCalibrating_eq]

theorem ChannelEntry.eligible_iff (c : ChannelEntry) :
    c.eligible = true ↔ c.state = .touched ∨ c.state = .pendingRelease := by
  simp [ChannelEntry.eligible]

theorem ChannelEntry.overHeld_iff (limit : Nat) (c : ChannelEntry) :
    c.overHeld limit = true ↔ limit ≠ 0 ∧ (c.state = .touched ∨ c.state = .pendingRelease) ∧ limit < c.hold := by
  simp [ChannelEntry.overHeld, ChannelEntry.eligible_iff, and_assoc]

end Sys2Proof.Machine
end

section
/-! CLAIMS. Baselines and the touch filter: one channel's update, the filter's table, and the baseline's tracking and
recovery. -/

namespace Sys2Proof.Proofs

open Sys2Proof Sys2Proof.Machine

/-- Settles O44, by the result and the state: an invalid result, CALIBRATING before and at the fourth sample, a baseline. -/
theorem channelUpdateByState : Obligations.ChannelUpdateByState := by
  unfold Obligations.ChannelUpdateByState
  intro r n c
  refine ⟨updateChannel_none r n c, ?_, ?_, ?_⟩
  · intro v calibrating early
    rw [updateChannel_of_calibrating r n v c calibrating, ChannelEntry.calibrate, if_pos early, if_pos early]
  · intro v calibrating fourth
    have last : ¬ c.calCount < 3 := by omega
    rw [updateChannel_of_calibrating r n v c calibrating, ChannelEntry.calibrate, if_neg last, if_neg last]
    rfl
  · intro v base states baseline delta f b isHeld hold d
    have sampled : c.filterSample r n v = d := by
      simp only [ChannelEntry.filterSample, baseline, Option.getD_some]
      rfl
    rw [updateChannel_of_baseline r n v c states, sampled]
    simp only [ChannelEntry.overHeld_iff]
    rfl

/-- Settles O45: the filter state by state, then the baseline in IDLE by the range of the delta, and outside IDLE. -/
theorem filterAndBaselineFollowTheirTables : Obligations.FilterAndBaselineFollowTheirTables := by
  unfold Obligations.FilterAndBaselineFollowTheirTables
  constructor
  · intro th rel depth counter delta
    refine ⟨fun below => filterStep_idle_of_lt below .., ?_, ?_, ?_, ?_,
      fun below => filterStep_pendingTouch_of_lt below .., fun kept => filterStep_touched_of_le kept .., ?_, ?_, ?_, ?_,
      fun kept => filterStep_pendingRelease_of_le kept ..⟩
    · intro reached one
      rw [filterStep_idle_of_le reached, if_pos one]
    · intro reached more
      rw [filterStep_idle_of_le reached, if_neg more.ne']
    · intro reached early
      rw [filterStep_pendingTouch_of_le reached, if_pos early]
    · intro reached last
      rw [filterStep_pendingTouch_of_le reached, if_neg last.not_lt]
    · intro below one
      rw [filterStep_touched_of_lt below, if_pos one]
    · intro below more
      rw [filterStep_touched_of_lt below, if_neg more.ne']
    · intro below early
      rw [filterStep_pendingRelease_of_lt below, if_pos early]
    · intro below last
      rw [filterStep_pendingRelease_of_lt below, if_neg last.not_lt]
  · intro th depth st base reverse v delta positive diff move
    have step : max 1 (distance v base / 16) = move := trackingStep_eq base v
    refine ⟨?_, ?_, ?_, ?_, fun busy => followBaseline_of_ne_idle busy ..⟩
    · rintro rfl low high
      rw [followBaseline_idle_of_within low high, ← step]
      refine ⟨?_, ?_, ?_⟩
      · rintro rfl
        rw [trackBaseline_self]
      · intro above
        obtain ⟨moved, within⟩ := trackBaseline_of_lt above
        exact ⟨by rw [moved], moved ▸ within⟩
      · intro below
        obtain ⟨moved, within⟩ := trackBaseline_of_gt below
        exact ⟨by rw [moved], moved ▸ within⟩
    · rintro rfl far early
      rw [followBaseline_idle_of_reverse far, if_neg (Nat.not_le.mpr early)]
    · rintro rfl far atDepth
      rw [followBaseline_idle_of_reverse far, if_pos atDepth]
    · rintro rfl reached
      exact followBaseline_idle_of_touch positive reached ..

end Sys2Proof.Proofs
end

section
/-! SUPPORT. The configuration record's fields as numbers of its bytes (R172), and START's validation: each check read from the
bytes (R138, R139), and the first of the numbered checks that fails. -/

namespace Sys2Proof.Machine

/-! ## The bits of a record's byte (R171) -/

theorem toNat_recordByte (r : ConfigRecord) (i : Fin 20) : (recordByte r i).toNat = recordNat r i.val := by
  simp [recordByte, recordNat]

theorem bitField_recordByte (r : ConfigRecord) (i : Fin 20) (hi lo : Nat) :
    bitField hi lo (recordByte r i) = recordNat r i.val / 2 ^ lo % 2 ^ (hi + 1 - lo) := by
  rw [bitField, toNat_recordByte]

/-- The bits from the byte's most significant one down are a quotient. -/
theorem bitField_recordByte_high (r : ConfigRecord) (i : Fin 20) {lo : Nat} (le : lo ≤ 7) :
    bitField 7 lo (recordByte r i) = recordNat r i.val / 2 ^ lo := by
  have size : 2 ^ 8 = 2 ^ lo * 2 ^ (8 - lo) := by rw [← pow_add, Nat.add_sub_cancel' (by omega)]
  have below : recordNat r i.val < 2 ^ lo * 2 ^ (8 - lo) := by
    rw [← size, ← toNat_recordByte]
    exact (recordByte r i).isLt
  rw [bitField_recordByte]
  exact Nat.mod_eq_of_lt (Nat.div_lt_of_lt_mul below)

/-- The bits down to the byte's least significant one are a remainder. -/
theorem bitField_recordByte_low (r : ConfigRecord) (i : Fin 20) (hi : Nat) :
    bitField hi 0 (recordByte r i) = recordNat r i.val % 2 ^ (hi + 1) := by
  rw [bitField_recordByte, pow_zero, Nat.div_one, Nat.sub_zero]

/-- The whole byte. -/
theorem bitField_recordByte_whole (r : ConfigRecord) (i : Fin 20) : bitField 7 0 (recordByte r i) = recordNat r i.val := by
  rw [bitField_recordByte_high r i (Nat.zero_le 7), pow_zero, Nat.div_one]

/-! ## The fields in the layout (R172) -/

theorem cfgAddress_eq (r : ConfigRecord) : cfgAddress r = recordNat r 0 / 4 :=
  bitField_recordByte_high r 0 (lo := 2) (by decide)

theorem cfgLampCode_eq (r : ConfigRecord) : cfgLampCode r = recordNat r 0 % 4 :=
  bitField_recordByte_low r 0 1

theorem cfgChannelCount_eq (r : ConfigRecord) : cfgChannelCount r = recordNat r 1 / 16 :=
  bitField_recordByte_high r 1 (lo := 4) (by decide)

theorem cfgClearPulse_eq (r : ConfigRecord) : cfgClearPulse r = recordNat r 1 % 16 :=
  bitField_recordByte_low r 1 3

theorem descriptorRole_cfgDescriptor (r : ConfigRecord) (n : Fin 8) :
    descriptorRole (cfgDescriptor r n) = recordNat r (2 + n.val) / 64 :=
  bitField_recordByte_high r _ (lo := 6) (by decide)

theorem descriptorDrive_cfgDescriptor (r : ConfigRecord) (n : Fin 8) :
    descriptorDrive (cfgDescriptor r n) = recordNat r (2 + n.val) / 8 % 8 :=
  bitField_recordByte r _ 5 3

theorem descriptorPlate_cfgDescriptor (r : ConfigRecord) (n : Fin 8) :
    descriptorPlate (cfgDescriptor r n) = recordNat r (2 + n.val) % 8 :=
  bitField_recordByte_low r _ 2

theorem cfgWindow_eq (r : ConfigRecord) : cfgWindow r = recordNat r 10 :=
  bitField_recordByte_whole r 10

theorem cfgPeriod_eq (r : ConfigRecord) : cfgPeriod r = recordNat r 11 :=
  bitField_recordByte_whole r 11

theorem cfgTouch_eq (r : ConfigRecord) : cfgTouch r = 16 * recordNat r 12 + recordNat r 13 / 16 :=
  congrArg₂ (16 * · + ·) (bitField_recordByte_whole r 12) (bitField_recordByte_high r 13 (lo := 4) (by decide))

theorem cfgRelease_eq (r : ConfigRecord) : cfgRelease r = 256 * (recordNat r 13 % 16) + recordNat r 14 :=
  congrArg₂ (256 * · + ·) (bitField_recordByte_low r 13 3) (bitField_recordByte_whole r 14)

theorem cfgDepth_eq (r : ConfigRecord) : cfgDepth r = recordNat r 15 / 32 :=
  bitField_recordByte_high r 15 (lo := 5) (by decide)

theorem cfgSuppression_eq (r : ConfigRecord) : cfgSuppression r = recordNat r 15 / 8 % 4 :=
  bitField_recordByte r 15 4 3

theorem cfgPumpSelect_eq (r : ConfigRecord) : cfgPumpSelect r = recordNat r 15 % 8 :=
  bitField_recordByte_low r 15 2

theorem cfgDuty_eq (r : ConfigRecord) : cfgDuty r = recordNat r 16 / 64 :=
  bitField_recordByte_high r 16 (lo := 6) (by decide)

theorem cfgLiftDelay_eq (r : ConfigRecord) : cfgLiftDelay r = recordNat r 16 / 4 % 8 :=
  bitField_recordByte r 16 4 2

theorem cfgHoldLimit_eq (r : ConfigRecord) : cfgHoldLimit r = 256 * (recordNat r 16 % 4) + recordNat r 17 :=
  congrArg₂ (256 * · + ·) (bitField_recordByte_low r 16 1) (bitField_recordByte_whole r 17)

theorem cfgCapture_eq (r : ConfigRecord) : cfgCapture r = recordNat r 18 / 16 :=
  bitField_recordByte_high r 18 (lo := 4) (by decide)

theorem cfgMinPump_eq (r : ConfigRecord) : cfgMinPump r = recordNat r 19 / 8 :=
  bitField_recordByte_high r 19 (lo := 3) (by decide)

/-- The mode codes above 2 name no mode (R172). -/
theorem lampModeOf_eq_none_iff (code : Nat) : lampModeOf code = none ↔ 2 < code := by
  match code with
  | 0 | 1 | 2 => simp [lampModeOf]
  | n + 3 => simp [lampModeOf]

/-! ## The descriptors' pins (R139) -/

theorem mem_allChannels (n : Fin 8) : n ∈ allChannels := by
  revert n
  decide

theorem isConfigured_iff (r : ConfigRecord) (n : Fin 8) : isConfigured r n = true ↔ n.val < recordNat r 1 / 16 := by
  rw [isConfigured, decide_eq_true_iff, cfgChannelCount_eq]

/-- A descriptor names its drive pin, and its plate pin where its role is PAIR. -/
theorem mem_namedPins_iff (d : Byte) (p : Nat) :
    p ∈ namedPins d ↔ descriptorDrive d = p ∨ (descriptorRole d = 1 ∧ descriptorPlate d = p) := by
  by_cases pair : descriptorRole d = 1 <;> simp [namedPins, pair, @eq_comm _ p]

/-- A pin is taken before descriptor `n` where an earlier configured descriptor names it. -/
theorem mem_pinsBefore_iff (r : ConfigRecord) (n : Fin 8) (p : Nat) :
    p ∈ pinsBefore r n ↔ ∃ m < n.val, NamesPin r m p := by
  have named (m : Fin 8) : isConfigured r m = true ∧ p ∈ namedPins (cfgDescriptor r m) ↔ NamesPin r m p := by
    rw [isConfigured_iff, mem_namedPins_iff, descriptorDrive_cfgDescriptor, descriptorRole_cfgDescriptor,
      descriptorPlate_cfgDescriptor, NamesPin]
  simp only [pinsBefore, List.mem_flatMap, List.mem_filter, mem_allChannels, true_and, Bool.and_eq_true,
    decide_eq_true_iff, and_assoc, named]
  constructor
  · rintro ⟨m, earlier, names⟩
    exact ⟨m, earlier, names⟩
  · rintro ⟨m, earlier, names⟩
    exact ⟨⟨m, by omega⟩, earlier, names⟩

/-- The check of a descriptor is R139's: its role, its drive pin, and in the role PAIR its plate pin. -/
theorem descriptorFails_iff (r : ConfigRecord) (n : Fin 8) : descriptorFails r n = true ↔ DescriptorFails r n := by
  have taken : ((namedPins (cfgDescriptor r n)).any fun p => (pinsBefore r n).contains p) = true ↔
      (∃ m < n.val, NamesPin r m (descriptorDrive (cfgDescriptor r n))) ∨
        (descriptorRole (cfgDescriptor r n) = 1 ∧
          ∃ m < n.val, NamesPin r m (descriptorPlate (cfgDescriptor r n))) := by
    simp only [List.any_eq_true, List.contains_iff_mem, mem_namedPins_iff, mem_pinsBefore_iff, or_and_right, exists_or,
      and_assoc, exists_and_left, exists_eq_left']
  simp only [descriptorFails, Bool.and_eq_true, Bool.or_eq_true, decide_eq_true_iff, beq_iff_eq, taken, isConfigured_iff,
    descriptorRole_cfgDescriptor, descriptorDrive_cfgDescriptor, descriptorPlate_cfgDescriptor, DescriptorFails]
  rw [or_assoc, or_assoc, ← and_or_left, or_comm (a := ∃ m < n.val, NamesPin r m (recordNat r (2 + n.val) % 8))]

/-! ## The first failing field (R138) -/

/-- The checks of fields 3 to 10 are those of the descriptors in their order. -/
theorem mem_descriptorChecks_iff (r : ConfigRecord) (k : Nat) :
    (k, true) ∈ allChannels.map (fun n => (3 + n.val, descriptorFails r n)) ↔
      3 ≤ k ∧ k ≤ 10 ∧ DescriptorFails r (k - 3) := by
  simp only [List.mem_map, mem_allChannels, true_and, Prod.mk.injEq, descriptorFails_iff]
  constructor
  · rintro ⟨n, rfl, fails⟩
    exact ⟨by omega, by omega, by rwa [Nat.add_sub_cancel_left]⟩
  · rintro ⟨from3, to10, fails⟩
    exact ⟨⟨k - 3, by omega⟩, Nat.add_sub_cancel' from3, fails⟩

/-- The check that carries the number `k` finds a fault exactly where field `k` fails. -/
theorem mem_fieldChecks_iff (r : ConfigRecord) (k : Nat) : (k, true) ∈ fieldChecks r ↔ FieldFails r k := by
  simp only [fieldChecks, List.mem_append, mem_descriptorChecks_iff, List.mem_cons, List.not_mem_nil, Prod.mk.injEq,
    Bool.true_eq, Bool.or_eq_true, Bool.and_eq_true, decide_eq_true_iff, beq_iff_eq, Option.isNone_iff_eq_none,
    lampModeOf_eq_none_iff, or_false, or_assoc,
    cfgAddress_eq, cfgLampCode_eq, cfgChannelCount_eq, cfgClearPulse_eq, cfgWindow_eq, cfgPeriod_eq, cfgTouch_eq,
    cfgRelease_eq, cfgDepth_eq, cfgSuppression_eq, cfgPumpSelect_eq, cfgDuty_eq, cfgLiftDelay_eq, cfgHoldLimit_eq,
    cfgCapture_eq, cfgMinPump_eq, FieldFails]

/-- The checks stand in the order of field number, from 1 to 24. -/
theorem map_fst_fieldChecks (r : ConfigRecord) : (fieldChecks r).map Prod.fst = List.range' 1 24 := rfl

/-- In a list of checks in ascending order, the check found first is the failing one of the lowest number. -/
theorem find?_snd_of_least {cs : List (Nat × Bool)} {k : Nat} (ascending : (cs.map Prod.fst).Pairwise (· < ·))
    (fails : (k, true) ∈ cs) (least : ∀ j < k, (j, true) ∉ cs) : cs.find? Prod.snd = some (k, true) := by
  obtain ⟨before, after, rfl⟩ := List.append_of_mem fails
  rw [List.map_append, List.pairwise_append] at ascending
  obtain ⟨-, -, earlier⟩ := ascending
  have passes : ∀ c ∈ before, c.2 = false := by
    rintro ⟨j, b⟩ mem
    have below : j < k := earlier j (List.mem_map_of_mem mem) k (by simp)
    cases b with
    | false => rfl
    | true => exact absurd (List.mem_append_left _ mem) (least j below)
  rw [List.find?_append, List.find?_eq_none.mpr (by simpa using passes)]
  rfl

/-- Validation stops at the failing field of the lowest number. -/
theorem firstFailingField_of_least {r : ConfigRecord} {k : Nat} (fails : FieldFails r k)
    (least : ∀ j < k, ¬ FieldFails r j) : firstFailingField r = some k := by
  have ascending : ((fieldChecks r).map Prod.fst).Pairwise (· < ·) := by
    rw [map_fst_fieldChecks]
    exact List.pairwise_lt_range'
  have found : (fieldChecks r).find? Prod.snd = some (k, true) :=
    find?_snd_of_least ascending ((mem_fieldChecks_iff r k).mpr fails)
      fun j below => (mem_fieldChecks_iff r j).not.mpr (least j below)
  rw [firstFailingField, found]
  rfl

/-! ## START (R137) -/

/-- In RECEIVING the row of START takes the command. -/
theorem exec_start_of_receiving (s : State) (h : s.port.state = .receiving) : exec .start s = .next s.takeStart := by
  have arm : exec .start s = execStart s := rfl
  rw [arm, execStart, s.whenReceiving_of_receiving _ h]

theorem State.takeStart_of_not_config (s : State) (h : s.agreement.membership ≠ .config) :
    s.takeStart = s.answer .refusedState [] := by
  rw [State.takeStart, if_neg h]

theorem State.takeStart_of_failing {s : State} {k : Nat} (config : s.agreement.membership = .config)
    (first : firstFailingField s.store.record = some k) : s.takeStart = s.answer .badArgument [byteOf k] := by
  rw [State.takeStart, if_pos config, first]

end Sys2Proof.Machine
end

section
/-! CLAIMS. Configuration and start: what a START that puts nothing into service answers. -/

namespace Sys2Proof.Proofs

open Sys2Proof Sys2Proof.Machine

/-- Settles O17: by the membership, and in CONFIG by the first of the numbered checks that fails. -/
theorem startNamesTheFirstFailingField : Obligations.StartNamesTheFirstFailingField := by
  unfold Obligations.StartNamesTheFirstFailingField
  intro s receiving
  rw [exec_start_of_receiving s receiving]
  constructor
  · intro notConfig
    rw [s.takeStart_of_not_config notConfig]
    rfl
  · intro k config fails least
    rw [State.takeStart_of_failing config (firstFailingField_of_least fails least)]
    rfl

end Sys2Proof.Proofs
end

section
/-! SUPPORT. The port commands that only read: what a port command does in RECEIVING, and the bytes each of them answers
(R174). -/

namespace Sys2Proof.Machine

/-! ## Taking a port command (R144) -/

/-- In RECEIVING a row that waits for the port takes its command. -/
theorem exec_of_receiving {i : Instr} {take : State → State} {s : State}
    (arm : exec i s = .next (s.whenReceiving take)) (h : s.port.state = .receiving) : exec i s = .next (take s) := by
  rw [arm, s.whenReceiving_of_receiving take h]

/-- An answer is its status byte and its result bytes latched at the port, and nothing else (R144). -/
theorem State.answer_eq_withAnswer (st : Status) (results : List Byte) (s : State) :
    s.answer st results = s.withAnswer (st.code :: results) := rfl

/-- A command whose effect is the answer DONE changes nothing but the port. -/
theorem exec_eq_withAnswer_of_done {i : Instr} {take : State → State} {s : State} {results : List Byte}
    (arm : exec i s = .next (s.whenReceiving take)) (done : take s = s.answer .done results)
    (h : s.port.state = .receiving) : exec i s = .next (s.withAnswer (0x01 :: results)) := by
  rw [exec_of_receiving arm h, done, State.answer_eq_withAnswer]
  rfl

/-! ## The codes (R146, R174) -/

theorem Membership.code_eq (m : Membership) :
    m.code = match m with | .config => 0 | .listen => 1 | .member => 2 | .conflict => 3 := by
  cases m <;> rfl

/-- The window, the gap and the slot phases are one class, that of a round. -/
theorem Phase.classCode_eq (p : Phase) :
    p.classCode =
      match p with | .off => 0 | .settling => 1 | .idle => 2 | .brk => 4 | .breakDrive => 5 | _ => 3 := by
  cases p <;> rfl

theorem PeerState.code_eq (p : PeerState) :
    p.code = match p with | .absent => 0 | .present => 1 | .missing => 2 := by
  cases p <;> rfl

/-! ## The result bytes (R174) -/

theorem statusBytes_eq (s : State) :
    statusBytes s =
      [s.agreement.membership.code, s.bus.phase.classCode,
       BitVec.ofNat 8 s.queue.records.length, BitVec.ofNat 8 s.queue.lost,
       BitVec.ofNat 8 (s.bus.stamp.toNat / 256), BitVec.ofNat 8 s.bus.stamp.toNat,
       BitVec.ofNat 8 s.tracker.nextId, BitVec.ofNat 8 s.tracker.touches.length] := rfl

theorem TouchRecord.bytes_eq (t : TouchRecord) :
    t.bytes = [BitVec.ofNat 8 t.id, BitVec.ofNat 8 t.position, BitVec.ofNat 8 (t.strength / 256),
      BitVec.ofNat 8 t.strength, BitVec.ofNat 8 t.miss] := rfl

theorem touchBytes_eq (t : Tracker) :
    touchBytes t = BitVec.ofNat 8 t.touches.length :: t.touches.flatMap fun r => r.bytes := rfl

theorem PeerEntry.bytes_eq (p : PeerEntry) :
    p.bytes = [BitVec.ofNat 8 (4 * p.state.code + p.miss), BitVec.ofNat 8 (p.lastPresent.toNat / 256),
      BitVec.ofNat 8 p.lastPresent.toNat] := rfl

theorem peerBytes_eq (t : PeerTable) : peerBytes t = t.entries.toList.flatMap fun p => p.bytes := rfl

/-! ## The four commands (R146, R147, R151) -/

theorem exec_nop_of_receiving (s : State) (h : s.port.state = .receiving) :
    exec .nop s = .next (s.withAnswer [0x01]) :=
  exec_eq_withAnswer_of_done (take := State.takeNop) rfl rfl h

theorem exec_getStatus_of_receiving (s : State) (h : s.port.state = .receiving) :
    exec .getStatus s = .next (s.withAnswer (0x01 :: statusBytes s)) :=
  exec_eq_withAnswer_of_done (take := State.takeGetStatus) rfl rfl h

theorem exec_peekTouches_of_receiving (s : State) (h : s.port.state = .receiving) :
    exec .peekTouches s = .next (s.withAnswer (0x01 :: touchBytes s.tracker)) :=
  exec_eq_withAnswer_of_done (take := State.takePeekTouches) rfl rfl h

theorem exec_readPeers_of_receiving (s : State) (h : s.port.state = .receiving) :
    exec .readPeers s = .next (s.withAnswer (0x01 :: peerBytes s.peers)) :=
  exec_eq_withAnswer_of_done (take := State.takeReadPeers) rfl rfl h

end Sys2Proof.Machine
end

section
/-! CLAIMS. The local port: the commands that only read the station. -/

namespace Sys2Proof.Proofs

open Sys2Proof Sys2Proof.Machine

/-- Settles O11: each of the four rows answers DONE whatever the membership is, and the bytes latched are those of R174. -/
theorem readingCommandsAnswerDone : Obligations.ReadingCommandsAnswerDone := by
  unfold Obligations.ReadingCommandsAnswerDone
  intro s receiving
  refine ⟨exec_nop_of_receiving s receiving, ?status, ?touches, ?peers⟩
  case status =>
    have answered := exec_getStatus_of_receiving s receiving
    rw [statusBytes_eq, Membership.code_eq, Phase.classCode_eq] at answered
    exact answered
  case touches =>
    have answered := exec_peekTouches_of_receiving s receiving
    simp only [touchBytes_eq, TouchRecord.bytes_eq] at answered
    exact answered
  case peers =>
    have answered := exec_readPeers_of_receiving s receiving
    simp only [peerBytes_eq, PeerEntry.bytes_eq, PeerState.code_eq] at answered
    exact answered

end Sys2Proof.Proofs
end

section
/-! SUPPORT. The bytes of an event record (R175): the kind and the stamp before the kind's own fields, and the three shapes
that those fields take. -/

namespace Sys2Proof.Machine

/-- Every record begins with its kind and its stamp, high byte first; bytes 3 to 7 are its kind's own fields. -/
theorem EventRecord.bytes_eq (r : EventRecord) :
    r.bytes = r.event.kindCode :: BitVec.ofNat 8 (r.stamp.toNat / 256) :: BitVec.ofNat 8 r.stamp.toNat ::
      r.event.fieldBytes := rfl

/-- The four touch kinds: id, position and strength. -/
theorem EventRecord.bytes_of_touch (w : Stamp) {e : Event} {i p st : Nat}
    (touch : e.fieldBytes =
      [BitVec.ofNat 8 i, BitVec.ofNat 8 p, BitVec.ofNat 8 (st / 256), BitVec.ofNat 8 st, 0]) :
    EventRecord.bytes { stamp := w, event := e } =
      [e.kindCode, BitVec.ofNat 8 (w.toNat / 256), BitVec.ofNat 8 w.toNat,
       BitVec.ofNat 8 i, BitVec.ofNat 8 p, BitVec.ofNat 8 (st / 256), BitVec.ofNat 8 st, 0] := by
  rw [EventRecord.bytes_eq, touch]

/-- The kinds with one byte of their own: a cause, a membership, an address or a lost count. -/
theorem EventRecord.bytes_of_byte (w : Stamp) {e : Event} {b : Byte} (only : e.fieldBytes = [b, 0, 0, 0, 0]) :
    EventRecord.bytes { stamp := w, event := e } =
      [e.kindCode, BitVec.ofNat 8 (w.toNat / 256), BitVec.ofNat 8 w.toNat, b, 0, 0, 0, 0] := by
  rw [EventRecord.bytes_eq, only]

/-- CHANNEL alone has two: the channel and the cause. -/
theorem EventRecord.bytes_channel (w : Stamp) (n : Nat) (c : ChannelCause) :
    EventRecord.bytes { stamp := w, event := .channel n c } =
      [0x0D, BitVec.ofNat 8 (w.toNat / 256), BitVec.ofNat 8 w.toNat, BitVec.ofNat 8 n, c.code, 0, 0, 0] := by
  rw [EventRecord.bytes_eq]
  rfl

end Sys2Proof.Machine
end

section
/-! CLAIMS. Formats, pins and timing summary: the layout of the configuration record and of the event record. -/

namespace Sys2Proof.Proofs

open Sys2Proof Sys2Proof.Machine

/-- Settles O16: field by field in the order of the layout's table; of the mode codes, those above 2 name no mode. -/
theorem recordFieldsStandInTheLayout : Obligations.RecordFieldsStandInTheLayout := by
  unfold Obligations.RecordFieldsStandInTheLayout
  intro r
  have descriptors (n : Fin 8) :=
    And.intro (descriptorRole_cfgDescriptor r n)
      (And.intro (descriptorDrive_cfgDescriptor r n) (descriptorPlate_cfgDescriptor r n))
  have noMode : lampModeOf 3 = none := (lampModeOf_eq_none_iff 3).mpr (by decide)
  exact ⟨cfgAddress_eq r, cfgLampCode_eq r, cfgChannelCount_eq r, cfgClearPulse_eq r, descriptors,
    cfgWindow_eq r, cfgPeriod_eq r, cfgTouch_eq r, cfgRelease_eq r, cfgDepth_eq r, cfgSuppression_eq r,
    cfgPumpSelect_eq r, cfgDuty_eq r, cfgLiftDelay_eq r, cfgHoldLimit_eq r, cfgCapture_eq r, cfgMinPump_eq r,
    rfl, rfl, rfl, noMode⟩

/-- Settles O13: every kind has one of the three shapes, and its fields are read off its constructor. -/
theorem eventRecordLayout : Obligations.EventRecordLayout := by
  unfold Obligations.EventRecordLayout
  intro w hi lo bytes
  have touch {e : Event} {i p st : Nat} := EventRecord.bytes_of_touch w (e := e) (i := i) (p := p) (st := st)
  have byte {e : Event} {b : Byte} := EventRecord.bytes_of_byte w (e := e) (b := b)
  have channel := EventRecord.bytes_channel w
  refine ⟨?touches, ?mismatch, ?formation, ?brk, ?conflict, ?listen, ?member, ?inConflict, ?peers, ?datStuck, ?phantom,
    ?syncStuck, ?roundAbandoned, ?windowAnomaly, ?channels, ?overflow, ?worked⟩
  case touches => exact fun i p st => ⟨touch rfl, touch rfl, touch rfl, touch rfl⟩
  case mismatch | formation | brk | conflict => exact byte rfl
  case listen | member | inConflict => exact byte rfl
  case peers => exact fun a => ⟨byte rfl, byte rfl⟩
  case datStuck | phantom | syncStuck | roundAbandoned | windowAnomaly => exact byte rfl
  case channels => exact fun n => ⟨channel n .calibrated, channel n .holdLimit, channel n .blanket⟩
  case overflow => exact fun n => byte rfl
  case worked => exact EventRecord.bytes_of_touch 4 (e := .touchDown 9 15 420) (i := 9) (p := 15) (st := 420) rfl

end Sys2Proof.Proofs
end

section
/-! SUPPORT. What a step can do, said once: the events of the bus engine, the events of the lamp, what a command comes to, and
the passage from what keeps a property to every step. -/

namespace Sys2Proof.Machine

/-! ## The limits in ticks (section 11.8) -/

theorem strobeLimit_eq : strobeLimit = 160 := rfl

theorem breakLimit_eq : breakLimit = 64000 := rfl

theorem stuckLimit_eq : stuckLimit = 400000 := rfl

theorem State.longLowDue_iff (s : State) :
    s.longLowDue = true ↔ s.bus.lineLow = true ∧ s.bus.phase.isSlot = true ∧ 160 ≤ s.bus.lowTicks := by
  simp only [State.longLowDue, Bool.and_eq_true, decide_eq_true_eq, and_assoc]
  rfl

theorem State.breakDue_iff (s : State) :
    s.breakDue = true ↔ s.bus.lineLow = true ∧ s.bus.breakApplies = true ∧ 64000 ≤ s.bus.lowTicks := by
  simp only [State.breakDue, Bool.and_eq_true, decide_eq_true_eq, and_assoc]
  rfl

theorem State.stuckDue_iff (s : State) :
    s.stuckDue = true ↔
      s.bus.lineLow = true ∧ s.bus.phase ≠ .off ∧ s.bus.stuckReported = false ∧ 400000 ≤ s.bus.lowTicks := by
  simp only [State.stuckDue, Bool.and_eq_true, decide_eq_true_eq, and_assoc, Bool.not_eq_true']
  rfl

/-! ## The events of the bus engine -/

/-- `b` has the phase, the line and the drives of `a`: of the timers that hold SYNC none is started. -/
structure Bus.SameDrives (a b : Bus) : Prop where
  phase : b.phase = a.phase
  contestCount : b.contestCount = a.contestCount
  lineLow : b.lineLow = a.lineLow
  datDrive : b.datDrive = a.datDrive
  strobe : b.strobeTimer = a.strobeTimer ∨ b.strobeTimer = none
  hold : b.holdTimer = a.holdTimer ∨ b.holdTimer = none
  drive : b.breakTimer = a.breakTimer ∨ b.breakTimer = none

/-- What the bus engine and its timers can do to the station, one event after another. -/
inductive BusRun : State → State → Prop
  /-- Timers, the measured low, the pending flag: nothing that another block sees. -/
  | timers {s : State} (b : Bus) (same : s.bus.SameDrives b) : BusRun s { s with bus := b }
  /-- The line falls (R1). -/
  | fall {s : State} (high : s.bus.lineLow = false) : BusRun s s.fall
  /-- A slot's low reaches the strobe limit (R14). -/
  | abandon {s : State} (slot : s.bus.phase.isSlot = true) : BusRun s s.abandonRound
  /-- A low reaches the break limit (R16). -/
  | detect {s : State} (applies : s.bus.breakApplies = true) : BusRun s s.detectBreak
  /-- A low reaches the stuck limit (R18). -/
  | stuck {s : State} (on : s.bus.phase ≠ .off) : BusRun s s.reportStuck
  /-- The line rises (R1); in WINDOW the low has not reached the break limit. -/
  | rise {s : State} (dat : Bool) (inTime : s.bus.phase = .window → s.bus.lowTicks ≤ 63999) :
      BusRun s (State.riseInPhase dat { s with bus := s.bus.lineRises })
  /-- The station releases its own break, and another still holds SYNC (R20). -/
  | driveHeld {s : State} (drive : s.bus.phase = .breakDrive) :
      BusRun s { s with bus :=
        { s.bus with phase := .brk, breakTimer := none, strobeTimer := none, driveBreakSeen := false } }
  /-- The station releases its own break, and the line rises (R20). -/
  | driveEnds {s : State} (drive : s.bus.phase = .breakDrive) :
      BusRun s (State.endBreak { s with bus := Bus.lineRises { s.bus with breakTimer := none } })
  /-- The wait of SETTLING is over (R22). -/
  | settled {s : State} (settling : s.bus.phase = .settling) :
      BusRun s { s with bus := s.bus.enterIdle s.store.record }
  /-- The processing operation completes (R117). -/
  | operation {s : State} : BusRun s s.completeOperation
  | trans {s t u : State} (first : BusRun s t) (rest : BusRun t u) : BusRun s u

namespace BusRun

theorem nothing {s : State} : BusRun s s :=
  .timers s.bus ⟨rfl, rfl, rfl, rfl, .inl rfl, .inl rfl, .inl rfl⟩

theorem low {s : State} (n : Nat) : BusRun s { s with bus := s.bus.lowAtLeast n } :=
  .timers _ ⟨rfl, rfl, rfl, rfl, .inl rfl, .inl rfl, .inl rfl⟩

/-- A pull of SYNC is a fall, or nothing on a low line. -/
theorem pull {s : State} : BusRun s s.pull := by
  cases line : s.bus.lineLow with
  | false => rw [s.pull_of_high line]; exact .fall line
  | true => rw [s.pull_of_low line]; exact .nothing

/-- A timer ends with a pull of SYNC. -/
theorem timerPulls {s : State} (b : Bus) (same : s.bus.SameDrives b) : BusRun s (State.pull { s with bus := b }) :=
  (BusRun.timers b same).trans .pull

theorem longLowLimit {s : State} : BusRun s (if s.longLowDue then s.abandonRound else s) := by
  split
  · rename_i due
    obtain ⟨-, slot, -⟩ := s.longLowDue_iff.mp due
    exact .abandon slot
  · exact .nothing

theorem breakLimit {s : State} : BusRun s (if s.breakDue then s.detectBreak else s) := by
  split
  · rename_i due
    obtain ⟨-, applies, -⟩ := s.breakDue_iff.mp due
    exact .detect applies
  · exact .nothing

theorem stuckLimit {s : State} : BusRun s (if s.stuckDue then s.reportStuck else s) := by
  split
  · rename_i due
    obtain ⟨-, on, -⟩ := s.stuckDue_iff.mp due
    exact .stuck on
  · exact .nothing

theorem takeLowLimits {s : State} : BusRun s s.takeLowLimits :=
  longLowLimit.trans (breakLimit.trans stuckLimit)

end BusRun

/-! ## The limits of a low, and what stays -/

@[simp] theorem State.lineLow_longLowLimit (s : State) :
    (if s.longLowDue then s.abandonRound else s).bus.lineLow = s.bus.lineLow := by
  split <;> rfl

@[simp] theorem State.phase_stuckLimit (s : State) :
    (if s.stuckDue then s.reportStuck else s).bus.phase = s.bus.phase := by
  split <;> rfl

@[simp] theorem State.lowTicks_stuckLimit (s : State) :
    (if s.stuckDue then s.reportStuck else s).bus.lowTicks = s.bus.lowTicks := by
  split <;> rfl

/-- A break is detected in BREAK, or in the station's own drive. -/
theorem State.phase_detectBreak (s : State) :
    s.detectBreak.bus.phase = if s.bus.phase = .breakDrive then .breakDrive else .brk := by
  unfold State.detectBreak
  dsimp only
  split <;> simp only [State.bus_clearTouches] <;> rfl

/-- The limits of a low leave the station's own drive in its phase. -/
theorem State.phase_takeLowLimits_of_drive (s : State) (drive : s.bus.phase = .breakDrive) :
    s.takeLowLimits.bus.phase = .breakDrive := by
  have notSlot : ¬ s.longLowDue = true := fun due => by
    obtain ⟨-, slot, -⟩ := s.longLowDue_iff.mp due
    rw [drive] at slot
    cases slot
  simp only [State.takeLowLimits, if_neg notSlot, State.phase_stuckLimit]
  split
  · rw [State.phase_detectBreak, if_pos drive]
  · exact drive

/-- In a WINDOW that the break limit has left open the low is still below it. -/
theorem State.lowTicks_breakLimit_le (s : State) (low : s.bus.lineLow = true)
    (window : (if s.breakDue then s.detectBreak else s).bus.phase = .window) :
    (if s.breakDue then s.detectBreak else s).bus.lowTicks ≤ 63999 := by
  by_cases due : s.breakDue = true
  · rw [if_pos due, State.phase_detectBreak] at window
    split at window <;> cases window
  · rw [if_neg due] at window ⊢
    have applies : s.bus.breakApplies = true := by rw [Bus.breakApplies, window]
    rw [State.breakDue_iff, not_and, not_and, Nat.not_le] at due
    exact Nat.le_of_lt_succ (due low applies)

theorem State.lowTicks_takeLowLimits_le (s : State) (low : s.bus.lineLow = true)
    (window : s.takeLowLimits.bus.phase = .window) : s.takeLowLimits.bus.lowTicks ≤ 63999 := by
  simp only [State.takeLowLimits, State.phase_stuckLimit, State.lowTicks_stuckLimit] at window ⊢
  exact State.lowTicks_breakLimit_le _ (by simpa using low) window

namespace BusRun

theorem ofRise {s : State} (low : Nat) (dat : Bool) (isLow : s.bus.lineLow = true) : BusRun s (s.rise low dat) :=
  (BusRun.low low).trans (takeLowLimits.trans
    (.rise dat (State.lowTicks_takeLowLimits_le { s with bus := s.bus.lowAtLeast low } isLow)))

theorem releaseBreak {s : State} (o : Bool) (drive : s.bus.phase = .breakDrive) : BusRun s (s.releaseBreak o) := by
  have still := State.phase_takeLowLimits_of_drive { s with bus := s.bus.lowAtLeast breakDriveTicks } drive
  refine (BusRun.low breakDriveTicks).trans (takeLowLimits.trans ?_)
  unfold State.releaseBreak
  dsimp only
  split
  · exact .driveHeld still
  · exact .driveEnds still

end BusRun


/-! ## The bus engine in OFF (R21) -/

/-- `b` has the phase and the drives of `a`, whatever the line does: of the timers that hold SYNC none is started. -/
structure Bus.SameButLine (a b : Bus) : Prop where
  phase : b.phase = a.phase
  contestCount : b.contestCount = a.contestCount
  datDrive : b.datDrive = a.datDrive
  strobe : b.strobeTimer = a.strobeTimer ∨ b.strobeTimer = none
  hold : b.holdTimer = a.holdTimer ∨ b.holdTimer = none
  drive : b.breakTimer = a.breakTimer ∨ b.breakTimer = none

theorem Bus.SameButLine.trans {a b c : Bus} (first : a.SameButLine b) (rest : b.SameButLine c) : a.SameButLine c where
  phase := rest.phase.trans first.phase
  contestCount := rest.contestCount.trans first.contestCount
  datDrive := rest.datDrive.trans first.datDrive
  strobe := rest.strobe.elim (fun h => first.strobe.imp h.trans h.trans) .inr
  hold := rest.hold.elim (fun h => first.hold.imp h.trans h.trans) .inr
  drive := rest.drive.elim (fun h => first.drive.imp h.trans h.trans) .inr

/-- In OFF, with no operation in flight, the events of the bus engine move the line and stop timers, and do nothing else. -/
theorem BusRun.of_off {s t : State} (run : BusRun s t) (off : s.bus.phase = .off) (none : s.processor.inFlight = none) :
    ∃ b, t = { s with bus := b } ∧ s.bus.SameButLine b := by
  induction run with
  | timers b same =>
    exact ⟨b, rfl, same.phase, same.contestCount, same.datDrive, same.strobe, same.hold, same.drive⟩
  | @fall s high =>
    have falls : s.fall = { s with bus := s.bus.lineFalls } := by
      have phase : s.bus.lineFalls.phase = .off := off
      simp only [State.fall, phase]
    exact ⟨_, falls, rfl, rfl, rfl, .inl rfl, .inl rfl, .inl rfl⟩
  | @rise s dat =>
    have rises : State.riseInPhase dat { s with bus := s.bus.lineRises } = { s with bus := s.bus.lineRises } := by
      have phase : s.bus.lineRises.phase = .off := off
      simp only [State.riseInPhase, phase]
    exact ⟨_, rises, rfl, rfl, rfl, .inl rfl, .inl rfl, .inl rfl⟩
  | @operation s =>
    have ends : s.completeOperation = s := by simp only [State.completeOperation, none]
    exact ⟨s.bus, ends, rfl, rfl, rfl, .inl rfl, .inl rfl, .inl rfl⟩
  | abandon slot => rw [off] at slot; cases slot
  | detect applies => rw [Bus.breakApplies, off] at applies; cases applies
  | stuck on => exact absurd off on
  | driveHeld drive | driveEnds drive => rw [off] at drive; cases drive
  | settled settling => rw [off] at settling; cases settling
  | trans _ _ first rest =>
    obtain ⟨b, rfl, same⟩ := first off none
    obtain ⟨c, rfl, same'⟩ := rest (same.phase.trans off) none
    exact ⟨c, rfl, same.trans same'⟩

/-! ## The events of the lamp -/

/-- What the lamp's timers and the pump's edges do to the indicator (R165 to R168). -/
inductive LampEvent (r : ConfigRecord) (i : Indicator) : Indicator → Prop
  | preClearEnds (phase : i.phase = .preClear) : LampEvent r i (i.preClearEnds r)
  | postClearEnds (phase : i.phase = .postClear) : LampEvent r i (i.postClearEnds r)
  | minPumpExpires (phase : i.phase = .pumping) : LampEvent r i (i.minPumpExpires r)
  | pumpFalls (phase : i.phase = .pumping) (p : Nat) : LampEvent r i { i with pumpHigh := false, pumpPos := p }
  | pumpRises (phase : i.phase = .pumping) : LampEvent r i { i with pumpHigh := true, pumpPos := 0 }

/-! ## What a command comes to -/

/-- What a command of the table can do to the station; RESET alone resets it. -/
inductive Effect (c : Instr) (s : State) : State → Prop
  | reset (only : c = .reset) : Effect c s s.beginReset
  | bus {t : State} (run : BusRun s t) : Effect c s t
  | lamp {i : Indicator} (event : LampEvent s.store.record s.indicator i) : Effect c s { s with indicator := i }
  | counts (n : Fin 8) (k : Nat) (counting : s.frontEnd.counting = true) :
      Effect c s { s with frontEnd := s.frontEnd.countCycles n k }
  /-- The port and what it remembers of a READ_EVENT. -/
  | port (p : Port) (inReset : Bool) (latch : Option Latch) :
      Effect c s { s with port := p, inReset := inReset, queue := { s.queue with latch := latch } }
  /-- The end of a transaction (R158). -/
  | endsRead (p : Port) : Effect c s { s with port := p, queue := s.endRead }
  /-- WRITE_CONFIG in CONFIG (R135). -/
  | writes (p : Port) (r : ConfigRecord) (config : s.agreement.membership = .config) :
      Effect c s { s with port := p, store := { s.store with record := r } }
  /-- START on a record that passes (R137, R140). -/
  | starts (p : Port) (config : s.agreement.membership = .config) (valid : firstFailingField s.store.record = none) :
      Effect c s { s with port := p }.startEffects
  /-- RECALIBRATE (R149). -/
  | recalibrates (p : Port) (mask : Byte) (out : s.agreement.membership ≠ .config) :
      Effect c s { s with port := p, processor := s.processor.recalibrate mask }
  /-- BREAK_NETWORK in IDLE (R19). -/
  | drives (p : Port) (idle : s.bus.phase = .idle) : Effect c s { s with port := p, bus := s.bus.beginBreakDrive }
  /-- BREAK_NETWORK in another phase (R19). -/
  | pends (p : Port) : Effect c s { s with port := p, bus := { s.bus with pendingBreak := true } }
  /-- SET_LAMP (R150). -/
  | sets (p : Port) (m : LampMode) (out : s.agreement.membership ≠ .config) :
      Effect c s (State.setMode m { s with port := p })

namespace Effect

variable {c : Instr}

theorem nothing {s : State} : Effect c s s := .bus .nothing

theorem answers {s : State} (st : Status) (results : List Byte) : Effect c s (s.answer st results) :=
  .port (s.answer st results).port s.inReset s.queue.latch

theorem ofPort {s : State} (p : Port) : Effect c s { s with port := p } := .port p s.inReset s.queue.latch

theorem ite {p : Prop} [Decidable p] {s t u : State} (yes : p → Effect c s t) (no : ¬ p → Effect c s u) :
    Effect c s (if p then t else u) := by
  split
  · exact yes ‹_›
  · exact no ‹_›

theorem guarded {p : Prop} [Decidable p] {s t : State} (yes : p → Effect c s t) : Effect c s (if p then t else s) :=
  .ite yes fun _ => .nothing

theorem outsideConfig {take : State → State} {s : State} (taken : s.agreement.membership ≠ .config → Effect c s (take s)) :
    Effect c s (s.outsideConfig take) :=
  .ite (fun _ => .answers _ _) taken

theorem whenReceiving {take : State → State} {s : State} (taken : Effect c s (take s)) : Effect c s (s.whenReceiving take) :=
  .guarded fun _ => taken

theorem takeReadEvent (s : State) : Effect c s s.takeReadEvent := by
  unfold State.takeReadEvent
  split
  · exact .answers _ _
  · exact .port _ s.inReset _

theorem takeReadChannel (n : Byte) (s : State) : Effect c s (s.takeReadChannel n) := by
  refine .outsideConfig fun _ => ?_
  split
  · split
    · exact .answers _ _
    · exact .answers _ _
  · exact .answers _ _

theorem takeStart (s : State) : Effect c s s.takeStart := by
  refine .ite (fun config => ?_) fun _ => .answers _ _
  split
  · exact .answers _ _
  · exact .starts _ config ‹_›

theorem takeRecalibrate (mask : Byte) (s : State) : Effect c s (s.takeRecalibrate mask) := by
  refine .outsideConfig fun out => ?_
  split
  · exact .answers _ _
  · exact .recalibrates (s.answer .done []).port mask out

theorem takeBreakNetwork (s : State) : Effect c s s.takeBreakNetwork := by
  unfold State.takeBreakNetwork
  split
  case h_1 | h_2 => exact .answers _ _
  case h_3 | h_4 => exact .ite (fun _ => .answers _ _) fun _ => .ite (fun idle => .drives _ idle) fun _ => .pends _

theorem takeSetLamp (mode : Byte) (s : State) : Effect c s (s.takeSetLamp mode) := by
  refine .outsideConfig fun out => ?_
  split
  · exact .answers _ _
  · exact .ite (fun _ => .answers _ _) fun _ => .sets _ _ out

/-- Taking a port command. -/
theorem takeCommand (p : PortCommand) (s : State) : Effect c s (s.takeCommand p) := by
  cases p with
  | nop | getStatus | peekTouches | readPeers | unknown => exact .answers _ _
  | readEvent => exact takeReadEvent s
  | readChannel n => exact takeReadChannel n s
  | writeConfig r => exact .ite (fun config => .writes _ r config) fun _ => .answers _ _
  | start => exact takeStart s
  | recalibrate m => exact takeRecalibrate m s
  | breakNetwork => exact takeBreakNetwork s
  | setLamp m => exact takeSetLamp m s

theorem byteIn (b : Byte) (s : State) : Effect c s (s.byteIn b) := by
  unfold State.byteIn
  dsimp only
  split
  · exact takeCommand _ s
  · exact .ofPort _

theorem bitIn (sdi : Bool) (s : State) : Effect c s (s.bitIn sdi) := by
  unfold State.bitIn
  dsimp only
  split
  · exact .ofPort _
  · exact byteIn _ s

/-- A rising edge of SCK, by the state of the port. -/
theorem sckRisingEdge (sdi : Bool) (s : State) : ∃ t, exec (.sckRisingEdge sdi) s = .next t ∧ Effect c s t := by
  refine ⟨_, rfl, ?_⟩
  split
  · exact bitIn sdi s
  · exact .ofPort _
  · exact .nothing
  · exact .nothing

end Effect

/-- The row of a port command takes it in RECEIVING. -/
theorem exec_rowOf (c : PortCommand) (s : State) (wf : c.wf = true) :
    exec (rowOf c) s = .next (s.whenReceiving (State.takeCommand c)) := by
  cases c with
  | unknown code =>
    have free : namesCommand code = false := by simpa [PortCommand.wf] using wf
    exact congrArg Host.Outcome.next (if_neg (by simp [free]))
  | _ => rfl

/-- A row of the table either is that of a port command, or its arm says what it comes to. -/
theorem exec_effect (c : Instr) (s : State) : ∃ t, exec c s = .next t ∧ Effect c s t := by
  have row (p : PortCommand) (wf : p.wf = true) : ∃ t, exec (rowOf p) s = .next t ∧ Effect (rowOf p) s t :=
    ⟨_, exec_rowOf p s wf, .whenReceiving (.takeCommand p s)⟩
  cases c with
  | nop => exact row .nop rfl
  | getStatus => exact row .getStatus rfl
  | readEvent => exact row .readEvent rfl
  | peekTouches => exact row .peekTouches rfl
  | readChannel n => exact row (.readChannel n) rfl
  | readPeers => exact row .readPeers rfl
  | writeConfig r => exact row (.writeConfig r) rfl
  | start => exact row .start rfl
  | recalibrate m => exact row (.recalibrate m) rfl
  | breakNetwork => exact row .breakNetwork rfl
  | setLamp m => exact row (.setLamp m) rfl
  | unknownCommand code => exact ⟨_, rfl, .ite (fun _ => .nothing) fun _ => .whenReceiving (.answers _ _)⟩
  | reset => exact ⟨_, rfl, .reset rfl⟩
  | resetEnd => exact ⟨_, rfl, .guarded fun _ => .port _ false s.queue.latch⟩
  | csnFall => exact ⟨_, rfl, .ite (fun _ => .nothing) fun _ => .ite (fun _ => .ofPort _) fun _ => .ofPort _⟩
  | csnRise => exact ⟨_, rfl, .guarded fun _ => .endsRead _⟩
  | sckRisingEdge sdi => exact Effect.sckRisingEdge sdi s
  | syncFall => exact ⟨_, rfl, .bus .pull⟩
  | syncRise low dat => exact ⟨_, rfl, .guarded fun line => .bus (.ofRise low dat line)⟩
  | roundTimerExpiry | gapTimerExpiry | slotIntervalExpiry =>
    exact ⟨_, rfl, .guarded fun _ => .bus (.timerPulls _ ⟨rfl, rfl, rfl, rfl, .inl rfl, .inl rfl, .inl rfl⟩)⟩
  | windowHoldEnd =>
    exact ⟨_, rfl, .guarded fun _ => .bus (.timers _ ⟨rfl, rfl, rfl, rfl, .inl rfl, .inr rfl, .inl rfl⟩)⟩
  | strobeEnd => exact ⟨_, rfl, .bus (.timers _ ⟨rfl, rfl, rfl, rfl, .inr rfl, .inl rfl, .inl rfl⟩)⟩
  | longLow => exact ⟨_, rfl, .guarded fun guard => .bus (.abandon guard.2)⟩
  | breakDetected => exact ⟨_, rfl, .guarded fun guard => .bus (.detect guard.2)⟩
  | commandedBreakEnd o => exact ⟨_, rfl, .guarded fun guard => .bus (.releaseBreak o guard.1)⟩
  | syncStuck => exact ⟨_, rfl, .guarded fun _ => .bus ((BusRun.low _).trans .takeLowLimits)⟩
  | settlingComplete => exact ⟨_, rfl, .guarded fun guard => .bus (.settled guard.1)⟩
  | oscillatorCycle n k => exact ⟨_, rfl, .guarded fun guard => .counts n k guard.1⟩
  | processingOperation => exact ⟨_, rfl, .bus .operation⟩
  | preClearEnd => exact ⟨_, rfl, .guarded fun phase => .lamp (.preClearEnds phase)⟩
  | postClearEnd => exact ⟨_, rfl, .guarded fun phase => .lamp (.postClearEnds phase)⟩
  | minimumPumpTimerExpiry => exact ⟨_, rfl, .guarded fun guard => .lamp (.minPumpExpires guard.1)⟩
  | pumpHighTimeEnd => exact ⟨_, rfl, .guarded fun guard => .lamp (.pumpFalls guard.1 _)⟩
  | pumpPeriodEnd => exact ⟨_, rfl, .guarded fun phase => .lamp (.pumpRises phase)⟩

/-! ## Every step -/

/-- A tick and the effects of commands are all that a step can do: what they lead to from `P`, where the waiting commands and the
count of free values do not bear on `P`, every step leads to. -/
theorem step_leads {P R : State → Prop}
    (waiting : ∀ (s : State) (cs : List Instr) (n : Nat), P s → P { s with pending := cs, freeCount := n })
    (tick : ∀ s, P s → R s.tick) (effect : ∀ {c : Instr} (s t), Effect c s t → P s → R t) {s t : State} (holds : P s)
    (stepped : step s = .next t) : R t := by
  unfold step at stepped
  split at stepped
  · obtain rfl := Host.Outcome.next.inj stepped
    unfold State.idleStep
    split
    · exact tick s holds
    · exact effect _ _ (.nothing (c := .nop)) (waiting s _ s.freeCount holds)
    · exact effect _ _ (.nothing (c := .nop)) (waiting s _ _ holds)
  · rename_i c rest _
    obtain ⟨u, ran, does⟩ := exec_effect c { s with pending := rest }
    obtain rfl := Host.Outcome.next.inj (ran.symm.trans stepped)
    exact effect _ _ does (waiting s rest s.freeCount holds)

/-- The checks on CONFIG look at neither the waiting commands nor the count of free values. -/
theorem ConfigInv.waiting {s : State} (inv : ConfigInv s) (cs : List Instr) (n : Nat) :
    ConfigInv { s with pending := cs, freeCount := n } :=
  ⟨inv.off_iff, inv.locked_iff, inv.queue_empty, inv.tracker_reset, inv.nothing_in_flight, inv.not_counting, inv.lamp_off,
    inv.record_valid⟩

end Sys2Proof.Machine
end

section
/-! SUPPORT. What the bus engine's events do to the queue, the lamp, the channels and the front end, said once as moves; and the
event queue's rules. -/

namespace Sys2Proof.Machine

/-! ## What the ends of windows and operations leave alone -/

/-- The processing operation changes the processor and the queue alone. -/
theorem State.completeOperation_eq (s : State) :
    s.completeOperation =
      { s with processor := s.completeOperation.processor, queue := s.completeOperation.queue } := by
  unfold State.completeOperation
  split
  · rfl
  · rw [State.foldl_queueAt_eq]

@[simp] theorem State.bus_completeOperation (s : State) : s.completeOperation.bus = s.bus := by
  rw [State.completeOperation_eq]

@[simp] theorem State.contest_completeOperation (s : State) : s.completeOperation.contest = s.contest := by
  rw [State.completeOperation_eq]

@[simp] theorem State.agreement_completeOperation (s : State) : s.completeOperation.agreement = s.agreement := by
  rw [State.completeOperation_eq]

@[simp] theorem State.tracker_completeOperation (s : State) : s.completeOperation.tracker = s.tracker := by
  rw [State.completeOperation_eq]

@[simp] theorem State.bus_reportAnomaly (s : State) : s.reportAnomaly.bus = s.bus := by
  unfold State.reportAnomaly
  split <;> rfl

@[simp] theorem State.contest_reportAnomaly (s : State) : s.reportAnomaly.contest = s.contest := by
  unfold State.reportAnomaly
  split <;> rfl

@[simp] theorem State.agreement_reportAnomaly (s : State) : s.reportAnomaly.agreement = s.agreement := by
  unfold State.reportAnomaly
  split <;> rfl

@[simp] theorem State.tracker_reportAnomaly (s : State) : s.reportAnomaly.tracker = s.tracker := by
  unfold State.reportAnomaly
  split <;> rfl

/-- A result is at most its channel's counter: the window is at least W long (R109). -/
theorem windowResult_le {w t count v : Nat} {overrange : Bool} (h : windowResult w t count overrange = some v) :
    v ≤ count := by
  unfold windowResult at h
  split at h
  · rename_i accepted
    simp only [windowAccepted, Bool.and_eq_true, decide_eq_true_eq] at accepted
    obtain rfl := Option.some.inj h
    exact Nat.div_le_of_le_mul (by rw [Nat.mul_comm t]; exact Nat.mul_le_mul_left count accepted.1.1)
  · cases h

theorem FrontEnd.results_le (r : ConfigRecord) (t : Nat) (f : FrontEnd) (n : Fin 8) (v : Nat)
    (h : (f.results r t)[n] = some v) : v ≤ f.counters[n] := by
  simp only [FrontEnd.results, Fin.getElem_fin, Vector.getElem_ofFn] at h
  split at h
  · exact windowResult_le h
  · cases h

@[simp] theorem State.counters_reportAnomaly (s : State) :
    s.reportAnomaly.frontEnd.counters = s.frontEnd.counters := by
  unfold State.reportAnomaly
  split <;> rfl

/-! ## The moves behind the bus engine's events -/

/-- What the events of the bus engine do to the tracker, the front end, the processor, the queue and the indicator. -/
inductive Moves : State → State → Prop
  /-- The bus engine, the contest unit, the agreement unit and the peer table change; a count may begin from 0 or end, and a
  window's length below the break limit be kept. -/
  | units {s t : State} (counters : t.frontEnd.counters = s.frontEnd.counters ∨ t.frontEnd.counters = Vector.replicate 8 0)
      (length : t.frontEnd.lastLength = s.frontEnd.lastLength ∨ t.frontEnd.lastLength ≤ 63999)
      (tracker : t.tracker = s.tracker) (processor : t.processor = s.processor) (store : t.store = s.store)
      (queue : t.queue = s.queue) (indicator : t.indicator = s.indicator) : Moves s t
  | records {s : State} (e : Event) : Moves s (s.record e)
  /-- A change of the touch list with its records; demand is derived again. -/
  | tracks {s : State} (tr : Tracker) (es : List Event) :
      Moves s ({ s with tracker := tr }.recordAll es).deriveDemand
  /-- The processing operation completes. -/
  | completes {s : State} : Moves s s.completeOperation
  /-- Results of which none exceeds its counter are handed over. -/
  | handsOver {s : State} (results : Vector (Option Nat) 8)
      (bound : ∀ (n : Fin 8) (v : Nat), results[n] = some v → v ≤ s.frontEnd.counters[n]) :
      Moves s (s.beginOperation results)
  | trans {s t u : State} (first : Moves s t) (rest : Moves t u) : Moves s u

namespace Moves

/-- Only units that no other block looks into change. -/
theorem same {s t : State} (frontEnd : t.frontEnd = s.frontEnd) (tracker : t.tracker = s.tracker)
    (processor : t.processor = s.processor) (store : t.store = s.store) (queue : t.queue = s.queue)
    (indicator : t.indicator = s.indicator) : Moves s t :=
  .units (.inl (by rw [frontEnd])) (.inl (by rw [frontEnd])) tracker processor store queue indicator

theorem nothing {s : State} : Moves s s := .same rfl rfl rfl rfl rfl rfl

theorem recordAll {s : State} (es : List Event) : Moves s (s.recordAll es) := by
  induction es generalizing s with
  | nil => exact .nothing
  | cons e es ih => exact (Moves.records e).trans ih

/-- A change of units before or after another move. -/
theorem thenSame {s t u : State} (first : Moves s t) (frontEnd : u.frontEnd = t.frontEnd) (tracker : u.tracker = t.tracker)
    (processor : u.processor = t.processor) (store : u.store = t.store) (queue : u.queue = t.queue)
    (indicator : u.indicator = t.indicator) : Moves s u :=
  first.trans (.same frontEnd tracker processor store queue indicator)

theorem clearTouches {s : State} (c : ClearCause) : Moves s (s.clearTouches c) := .tracks _ _

theorem track {s : State} (ws : List Winner) : Moves s (s.track ws) := .tracks _ _

theorem adopt {s : State} (id : Nat) : Moves s (s.adopt id) := .tracks _ []

theorem setMembership {s : State} (m : Membership) : Moves s (s.setMembership m) := by
  refine .trans ?_ (.records (s := { s with agreement := s.agreement.become m }) _)
  exact .same rfl rfl rfl rfl rfl rfl

/-! ### Falls -/

theorem openWindow {s : State} : Moves s s.openWindow := .units (.inr rfl) (.inl rfl) rfl rfl rfl rfl rfl

theorem electDrive {s : State} : Moves s s.electDrive := by
  unfold State.electDrive
  cases s.bus.phase <;> try exact .same rfl rfl rfl rfl rfl rfl
  dsimp only
  split <;> exact .same rfl rfl rfl rfl rfl rfl

theorem openSlot {s : State} : Moves s s.openSlot := by
  unfold State.openSlot
  refine .trans ?_ .electDrive
  exact .units (.inr rfl) (.inl rfl) rfl rfl rfl rfl rfl

theorem fall {s : State} : Moves s s.fall := by
  have falls : Moves s { s with bus := s.bus.lineFalls } := .same rfl rfl rfl rfl rfl rfl
  unfold State.fall
  refine falls.trans ?_
  dsimp only
  split
  · exact .openWindow
  · refine .trans ?_ .openSlot
    exact .same rfl rfl rfl rfl rfl rfl
  case h_3 | h_4 | h_5 | h_6 | h_7 | h_8 => exact .openSlot
  · exact .same rfl rfl rfl rfl rfl rfl
  case h_10 | h_11 | h_12 | h_13 => exact .nothing

/-! ### The end of a window -/

theorem reportAnomaly {s : State} : Moves s s.reportAnomaly := by
  unfold State.reportAnomaly
  split
  · refine .trans ?_ (.records _)
    exact .units (.inl rfl) (.inl rfl) rfl rfl rfl rfl rfl
  · exact .nothing

theorem closeWindow {s : State} (inTime : s.bus.lowTicks ≤ 63999) : Moves s s.closeWindow := by
  unfold State.closeWindow
  refine Moves.completes.trans ?_
  dsimp only
  rw [State.bus_completeOperation]
  split
  · refine .trans ?_ (.handsOver _ ?_)
    · exact .units (.inl rfl) (.inr inTime) rfl rfl rfl rfl rfl
    · exact FrontEnd.results_le _ _ _
  · refine .trans ?_ (.trans .reportAnomaly (.handsOver _ ?_))
    · exact .units (.inl rfl) (.inr inTime) rfl rfl rfl rfl rfl
    · rw [State.counters_reportAnomaly]
      exact FrontEnd.results_le _ _ _

/-! ### The end of a slot -/

theorem presenceResult {s : State} (a : Nat) (dat : Bool) : Moves s (s.presenceResult a dat) := by
  unfold State.presenceResult
  split
  · exact .nothing
  · refine .trans ?_ (.recordAll _)
    exact .same rfl rfl rfl rfl rfl rfl

theorem endContests {s : State} : Moves s s.endContests := by
  unfold State.endContests
  dsimp only
  split
  · exact (Moves.track _).thenSame rfl rfl rfl rfl rfl rfl
  · exact .same rfl rfl rfl rfl rfl rfl

theorem nextContest {s : State} : Moves s s.nextContest := by
  unfold State.nextContest
  split
  · exact .same rfl rfl rfl rfl rfl rfl
  · exact .endContests

theorem enterConflict {s : State} : Moves s s.enterConflict := by
  unfold State.enterConflict
  exact ((Moves.clearTouches _).trans (.setMembership _)).thenSame rfl rfl rfl rfl rfl rfl

theorem checkWinner {s : State} : Moves s s.checkWinner := by
  unfold State.checkWinner
  dsimp only
  split
  · refine .trans ?_ (.trans (.records _) .endContests)
    exact .same rfl rfl rfl rfl rfl rfl
  · split
    · refine .trans ?_ (.trans .enterConflict .nextContest)
      exact .same rfl rfl rfl rfl rfl rfl
    · refine .trans ?_ .nextContest
      exact .same rfl rfl rfl rfl rfl rfl

theorem memberOutcome {s : State} : Moves s s.memberOutcome := by
  unfold State.memberOutcome
  split
  · exact (Moves.clearTouches _).thenSame rfl rfl rfl rfl rfl rfl
  · exact .nothing

theorem listenerOutcome {s : State} : Moves s s.listenerOutcome := by
  unfold State.listenerOutcome
  split
  · split
    · exact (Moves.adopt _).trans (.setMembership _)
    · exact .same rfl rfl rfl rfl rfl rfl
  · exact (Moves.clearTouches _).trans (.setMembership _)

theorem takeOutcome {s : State} : Moves s s.takeOutcome := by
  unfold State.takeOutcome
  split
  · exact .memberOutcome
  · exact .listenerOutcome
  · exact .listenerOutcome
  · exact .nothing
  · exact .nothing

theorem quietResult {s : State} (dat : Bool) : Moves s (s.quietResult dat) := by
  unfold State.quietResult
  split
  · exact (Moves.records (.busFault .datStuck)).thenSame rfl rfl rfl rfl rfl rfl
  · exact .same rfl rfl rfl rfl rfl rfl

theorem presenceSlotResult {s : State} (dat : Bool) : Moves s (s.presenceSlotResult dat) := by
  unfold State.presenceSlotResult
  dsimp only
  split
  · exact .presenceResult _ _
  · exact (Moves.presenceResult _ _).thenSame rfl rfl rfl rfl rfl rfl

theorem claimResult {s : State} (dat : Bool) : Moves s (s.claimResult dat) := by
  unfold State.claimResult
  dsimp only
  split
  · exact .same rfl rfl rfl rfl rfl rfl
  · refine .trans ?_ .endContests
    exact .same rfl rfl rfl rfl rfl rfl

theorem bidResult {s : State} (dat : Bool) : Moves s (s.bidResult dat) := by
  unfold State.bidResult
  dsimp only
  split
  · exact .same rfl rfl rfl rfl rfl rfl
  · refine .trans ?_ .checkWinner
    exact .same rfl rfl rfl rfl rfl rfl

theorem digestAResult {s : State} (dat : Bool) : Moves s (s.digestAResult dat) := by
  unfold State.digestAResult
  dsimp only
  split <;> exact .same rfl rfl rfl rfl rfl rfl

theorem digestBResult {s : State} (dat : Bool) : Moves s (s.digestBResult dat) := by
  unfold State.digestBResult
  dsimp only
  split
  · exact .same rfl rfl rfl rfl rfl rfl
  · refine .trans ?_ (Moves.takeOutcome.thenSame rfl rfl rfl rfl rfl rfl)
    exact .same rfl rfl rfl rfl rfl rfl

theorem slotResult {s : State} (dat : Bool) : Moves s (s.slotResult dat) := by
  unfold State.slotResult
  split
  · exact .quietResult dat
  · exact .presenceSlotResult dat
  · exact .claimResult dat
  · exact .bidResult dat
  · exact .digestAResult dat
  · exact .digestBResult dat
  all_goals exact .nothing

theorem completeSlot {s : State} (dat : Bool) : Moves s (s.completeSlot dat) := by
  unfold State.completeSlot
  refine .trans ?_ ((Moves.slotResult dat).thenSame rfl rfl rfl rfl rfl rfl)
  exact .units (.inl rfl) (.inl rfl) rfl rfl rfl rfl rfl

/-! ### Lows that last, and the ends of phases -/

theorem abandonRound {s : State} : Moves s s.abandonRound :=
  (Moves.records (.busFault .roundAbandoned)).thenSame rfl rfl rfl rfl rfl rfl

theorem detectBreak {s : State} : Moves s s.detectBreak := by
  have dropped : Moves s
      { s with contest := Contest.reset, agreement := s.agreement.discardItems, frontEnd := s.frontEnd.endCount } :=
    .units (.inl rfl) (.inl rfl) rfl rfl rfl rfl rfl
  unfold State.detectBreak
  refine dropped.trans ?_
  dsimp only
  split
  · exact (Moves.clearTouches _).thenSame rfl rfl rfl rfl rfl rfl
  · exact .same rfl rfl rfl rfl rfl rfl

theorem reportStuck {s : State} : Moves s s.reportStuck := by
  unfold State.reportStuck
  refine .trans ?_ (.records _)
  exact .same rfl rfl rfl rfl rfl rfl

theorem endBreak {s : State} : Moves s s.endBreak := by
  have settles : Moves s { s with
      bus := s.bus.enterSettling
      agreement := { s.agreement.discardItems with listenRounds := 0, forcing := false } } :=
    .same rfl rfl rfl rfl rfl rfl
  unfold State.endBreak State.breakEndMembership
  refine settles.trans ?_
  dsimp only
  split
  · exact (Moves.clearTouches _).trans (.setMembership _)
  all_goals exact .nothing

theorem rise {s : State} (dat : Bool) (inTime : s.bus.phase = .window → s.bus.lowTicks ≤ 63999) :
    Moves s (State.riseInPhase dat { s with bus := s.bus.lineRises }) := by
  have rises : Moves s { s with bus := s.bus.lineRises } := .same rfl rfl rfl rfl rfl rfl
  unfold State.riseInPhase
  refine rises.trans ?_
  split
  · exact .closeWindow (inTime ‹_›)
  case h_2 | h_3 | h_4 | h_5 | h_6 | h_7 => exact .completeSlot dat
  · exact .endBreak
  · exact .same rfl rfl rfl rfl rfl rfl
  all_goals exact .nothing

end Moves

/-- The events of the bus engine come to these moves. -/
theorem BusRun.moves {s t : State} (run : BusRun s t) : Moves s t := by
  induction run with
  | timers => exact .same rfl rfl rfl rfl rfl rfl
  | fall => exact .fall
  | abandon => exact .abandonRound
  | detect => exact .detectBreak
  | stuck => exact .reportStuck
  | rise dat inTime => exact .rise dat inTime
  | driveHeld => exact .same rfl rfl rfl rfl rfl rfl
  | driveEnds =>
    refine .trans ?_ .endBreak
    exact .same rfl rfl rfl rfl rfl rfl
  | settled => exact .same rfl rfl rfl rfl rfl rfl
  | operation => exact .completes
  | trans _ _ first rest => exact first.trans rest

theorem Moves.store_eq {s t : State} (moves : Moves s t) : t.store = s.store := by
  induction moves with
  | units _ _ _ _ store => exact store
  | records => rfl
  | tracks => simp
  | completes => simp
  | handsOver => rfl
  | trans _ _ first rest => exact rest.trans first

end Sys2Proof.Machine
end

section
/-! SUPPORT. The event queue's rules, kept by every arrival and removal (R153 to R159). -/

namespace Sys2Proof.Machine

/-- The rules of the event queue: its length, its lost count, and one TOUCH_MOVE for any id. -/
structure EventQueue.Ok (q : EventQueue) : Prop where
  length_le : q.records.length ≤ 16
  lost_le : q.lost ≤ 255
  one_move : ∀ id, (q.records.filter (EventRecord.isMoveOf id)).length ≤ 1

theorem queueInv_iff (s : State) : QueueInv s ↔ s.queue.Ok :=
  ⟨fun ⟨length, lost, move⟩ => ⟨length, lost, move⟩, fun ⟨length, lost, move⟩ => ⟨length, lost, move⟩⟩

theorem EventRecord.isMoveOf_iff (id : Nat) (r : EventRecord) :
    r.isMoveOf id = true ↔ ∃ p st, r.event = .touchMove id p st := by
  obtain ⟨w, e⟩ := r
  cases e <;> simp [EventRecord.isMoveOf]

/-- Two moves of one id are moves of the same ids. -/
theorem EventRecord.isMoveOf_congr {id : Nat} {r m : EventRecord} (hr : r.isMoveOf id = true) (hm : m.isMoveOf id = true)
    (j : Nat) : r.isMoveOf j = m.isMoveOf j := by
  obtain ⟨p, st, er⟩ := (r.isMoveOf_iff id).mp hr
  obtain ⟨p', st', em⟩ := (m.isMoveOf_iff id).mp hm
  simp only [EventRecord.isMoveOf, er, em]

namespace EventQueue

/-- A record found stands between those before it and those behind it. -/
theorem split_of_findIdx? {rs : List EventRecord} {p : EventRecord → Bool} {i : Nat} (found : rs.findIdx? p = some i) :
    ∃ m, rs = rs.take i ++ m :: rs.drop (i + 1) ∧ p m = true := by
  obtain ⟨inside, holds, -⟩ := List.findIdx?_eq_some_iff_getElem.mp found
  exact ⟨rs[i], by rw [List.getElem_cons_drop, List.take_append_drop], holds⟩

/-- Every arrival is an append of a record that is no second move of its id, or takes the place of the move it meets, or
removes that move and goes to the tail. -/
theorem records_arrive (r : EventRecord) (q : EventQueue) :
    (q.arrive r = q.append r ∧ ∀ id, r.isMoveOf id = true → ∀ x ∈ q.records, x.isMoveOf id = false) ∨
    ∃ id before m after, q.records = before ++ m :: after ∧ m.isMoveOf id = true ∧ r.isMoveOf id = true ∧
      ((q.arrive r).records = before ++ r :: after ∨ (q.arrive r).records = before ++ after ++ [r]) := by
  by_cases free : ∀ id, r.isMoveOf id = true → q.records.findIdx? (EventRecord.isMoveOf id) = none
  · refine .inl ⟨q.arrive_eq_append r fun id p st e => free id ((r.isMoveOf_iff id).mpr ⟨p, st, e⟩), fun id move => ?_⟩
    exact List.findIdx?_eq_none_iff.mp (free id move)
  · push Not at free
    obtain ⟨id, move, found⟩ := free
    obtain ⟨i, found⟩ := Option.ne_none_iff_exists'.mp found
    obtain ⟨m, split, isMove⟩ := split_of_findIdx? found
    obtain ⟨inside, -, -⟩ := List.findIdx?_eq_some_iff_getElem.mp found
    obtain ⟨p, st, e⟩ := (r.isMoveOf_iff id).mp move
    have meets : q.arrive r = q.meetMove id i r := by
      obtain ⟨w, _⟩ := r
      subst e
      exact q.arrive_eq_meetMove w id p st i found
    refine .inr ⟨id, q.records.take i, m, q.records.drop (i + 1), split, isMove, move, ?_⟩
    rw [meets, meetMove]
    by_cases ended : (q.records.drop (i + 1)).any (EventRecord.isEndOf id) = true
    · exact .inr (by rw [if_pos ended, List.eraseIdx_eq_take_drop_succ])
    · exact .inl (by rw [if_neg ended, List.set_eq_take_append_cons_drop, if_pos inside])

theorem one_move_append {rs : List EventRecord} {r : EventRecord} {id : Nat}
    (one : (rs.filter (EventRecord.isMoveOf id)).length ≤ 1)
    (first : r.isMoveOf id = true → ∀ x ∈ rs, x.isMoveOf id = false) :
    ((rs ++ [r]).filter (EventRecord.isMoveOf id)).length ≤ 1 := by
  rw [List.filter_append, List.length_append]
  cases move : r.isMoveOf id with
  | false => simpa [move] using one
  | true =>
    have none : rs.filter (EventRecord.isMoveOf id) = [] := List.filter_eq_nil_iff.mpr (by simpa using first move)
    simp [none, move]

theorem Ok.arrive {q : EventQueue} (ok : q.Ok) (r : EventRecord) : (q.arrive r).Ok where
  length_le := q.length_arrive_le r ok.length_le
  lost_le := q.lost_arrive_le r ok.lost_le
  one_move := fun id => by
    have one := ok.one_move id
    rcases q.records_arrive r with ⟨appended, first⟩ | ⟨j, before, m, after, split, moveM, moveR, replaced | moved⟩
    · rw [appended, append]
      split
      · exact one_move_append one (first id)
      · exact one
    · rw [replaced, ← List.countP_eq_length_filter]
      rw [split, ← List.countP_eq_length_filter] at one
      simp only [List.countP_append, List.countP_cons, EventRecord.isMoveOf_congr moveR moveM] at one ⊢
      exact one
    · rw [moved, ← List.countP_eq_length_filter]
      rw [split, ← List.countP_eq_length_filter] at one
      simp only [List.countP_append, List.countP_cons, List.countP_nil, EventRecord.isMoveOf_congr moveR moveM] at one ⊢
      omega

theorem Ok.arriveAll {q : EventQueue} (ok : q.Ok) (w : Stamp) (es : List Event) :
    (es.foldl (fun q e => q.arrive { stamp := w, event := e }) q).Ok := by
  induction es generalizing q with
  | nil => exact ok
  | cons e es ih => exact ih (ok.arrive _)

/-- What is latched is no matter of the rules. -/
theorem Ok.latch {q : EventQueue} (ok : q.Ok) (l : Option Latch) : EventQueue.Ok { q with latch := l } :=
  ⟨ok.length_le, ok.lost_le, ok.one_move⟩

theorem Ok.removeHead {q : EventQueue} (ok : q.Ok) (w : Stamp) : (q.removeHead w).Ok := by
  have fewer : q.records.tail.length ≤ 16 := (List.tail_sublist _).length_le.trans ok.length_le
  have one (id : Nat) : (q.records.tail.filter (EventRecord.isMoveOf id)).length ≤ 1 :=
    ((List.tail_sublist _).filter _).length_le.trans (ok.one_move id)
  have length := ok.length_le
  unfold EventQueue.removeHead
  split
  · exact ⟨fewer, ok.lost_le, one⟩
  · refine ⟨?_, Nat.zero_le 255, fun id => one_move_append (one id) fun move => ?_⟩
    · simp only [List.length_append, List.length_tail, List.length_singleton]
      omega
    · cases move

end EventQueue

/-- The end of a transaction removes the head or leaves the records. -/
theorem State.endRead_ok (s : State) (ok : s.queue.Ok) : s.endRead.Ok := by
  unfold State.endRead
  dsimp only
  split
  · exact (ok.latch none).removeHead _
  · exact ok.latch none

theorem EventQueue.reset_ok : EventQueue.reset.Ok := ⟨by decide, by decide, fun _ => Nat.zero_le 1⟩

theorem State.queue_completeOperation_ok (s : State) (ok : s.queue.Ok) : s.completeOperation.queue.Ok := by
  unfold State.completeOperation
  split
  · exact ok
  · rw [State.foldl_queueAt_eq]
    exact ok.arriveAll _ _

theorem Moves.queue_ok {s t : State} (moves : Moves s t) (ok : s.queue.Ok) : t.queue.Ok := by
  induction moves with
  | units _ _ _ _ _ queue => exact queue ▸ ok
  | records e => exact ok.arrive _
  | tracks tr es =>
    rw [State.queue_deriveDemand, State.queue_recordAll]
    exact ok.arriveAll _ _
  | completes => exact State.queue_completeOperation_ok _ ok
  | handsOver => exact ok
  | trans _ _ first rest => exact rest (first ok)

theorem Effect.queue_ok {c : Instr} {s t : State} (effect : Effect c s t) (ok : s.queue.Ok) : t.queue.Ok := by
  cases effect with
  | reset => exact EventQueue.reset_ok
  | bus run => exact run.moves.queue_ok ok
  | port _ _ latch => exact ok.latch latch
  | endsRead => exact s.endRead_ok ok
  | starts =>
    rw [State.startEffects, State.queue_setMode, State.queue_setMembership]
    exact ok.arrive _
  | sets =>
    rw [State.queue_setMode]
    exact ok
  | lamp | counts | writes | recalibrates | drives | pends => exact ok

end Sys2Proof.Machine
end

section
/-! CLAIMS. The event queue: what every step keeps of it. -/

namespace Sys2Proof.Proofs

open Sys2Proof Sys2Proof.Machine

/-- Settles O54: arrivals and removals keep the queue's rules, and every effect of a command is made of these. -/
theorem everyStepKeepsTheEventQueue : Obligations.EveryStepKeepsTheEventQueue := by
  unfold Obligations.EveryStepKeepsTheEventQueue
  intro s t
  simp only [queueInv_iff]
  exact step_leads (fun _ _ _ ok => ok) (fun _ ok => ok) fun _ _ effect ok => effect.queue_ok ok

end Sys2Proof.Proofs
end

section
/-! SUPPORT. The lamp's rules (R163, R164), kept by every move and every event of the lamp. -/

namespace Sys2Proof.Machine

/-- The lamp's timers and pins follow its phase (R164), whatever demand is derived from. -/
structure Indicator.Ok (i : Indicator) : Prop where
  clear_timer : i.clearTimer.isSome = true ↔ (i.phase = .preClear ∨ i.phase = .postClear)
  pump_timer : i.minPumpTimer.isSome = true → i.phase = .pumping ∧ i.elapsed = false
  pump_high : i.pumpHigh = true → i.phase = .pumping
  dark_undemanded : i.phase = .dark → i.demand = false

theorem lampInv_iff (s : State) :
    LampInv s ↔ s.indicator.Ok ∧
      s.indicator.demand = demandOf s.store.record s.indicator.mode s.tracker.touches :=
  ⟨fun inv => ⟨⟨inv.clear_timer, inv.pump_timer, inv.pump_high, inv.dark_undemanded⟩, inv.demand_derived⟩,
    fun ⟨ok, derived⟩ => ⟨derived, ok.clear_timer, ok.pump_timer, ok.pump_high, ok.dark_undemanded⟩⟩

namespace Indicator

@[simp] theorem demand_demandChanges (r : ConfigRecord) (d : Bool) (i : Indicator) :
    (i.demandChanges r d).demand = d := by
  unfold demandChanges
  dsimp only
  split <;> (try split) <;> rfl

@[simp] theorem mode_demandChanges (r : ConfigRecord) (d : Bool) (i : Indicator) :
    (i.demandChanges r d).mode = i.mode := by
  unfold demandChanges
  dsimp only
  split <;> (try split) <;> rfl

theorem Ok.mode {i : Indicator} (ok : i.Ok) (m : LampMode) : Ok { i with mode := m } :=
  ⟨ok.clear_timer, ok.pump_timer, ok.pump_high, ok.dark_undemanded⟩

theorem Ok.enterPreClear {i : Indicator} (r : ConfigRecord) (stopped : i.minPumpTimer = none) (low : i.pumpHigh = false) :
    (i.enterPreClear r).Ok := by
  constructor <;> simp [Indicator.enterPreClear, stopped, low]

theorem Ok.enterPumping {i : Indicator} (r : ConfigRecord) : (i.enterPumping r).Ok := by
  constructor <;> simp [Indicator.enterPumping]

theorem Ok.enterPostClear {i : Indicator} (r : ConfigRecord) : (i.enterPostClear r).Ok := by
  constructor <;> simp [Indicator.enterPostClear]

theorem Ok.enterDark {i : Indicator} (stopped : i.minPumpTimer = none) (low : i.pumpHigh = false)
    (undemanded : i.demand = false) : i.enterDark.Ok := by
  constructor <;> simp [Indicator.enterDark, stopped, low, undemanded]

/-- Outside PUMPING no minimum-pump timer runs. -/
theorem Ok.stopped {i : Indicator} (ok : i.Ok) (h : i.phase ≠ .pumping) : i.minPumpTimer = none :=
  Option.not_isSome_iff_eq_none.mp fun runs => h (ok.pump_timer runs).1

theorem Ok.low {i : Indicator} (ok : i.Ok) (h : i.phase ≠ .pumping) : i.pumpHigh = false :=
  Bool.eq_false_iff.mpr fun high => h (ok.pump_high high)

theorem Ok.demandChanges {i : Indicator} (ok : i.Ok) (r : ConfigRecord) (d : Bool) : (i.demandChanges r d).Ok := by
  unfold Indicator.demandChanges
  dsimp only
  have kept (h : i.phase = .dark → d = false) : Ok { i with demand := d } :=
    ⟨ok.clear_timer, ok.pump_timer, ok.pump_high, h⟩
  split
  · rename_i dark
    have out : i.phase ≠ .pumping := by rw [dark]; decide
    split
    · exact .enterPreClear r (ok.stopped out) (ok.low out)
    · exact kept fun _ => by simpa using ‹¬ d = true›
  case h_2 | h_3 => exact kept fun dark => by simp_all
  · split
    · exact .enterPostClear r
    · exact kept fun dark => by simp_all

end Indicator

theorem LampEvent.ok {r : ConfigRecord} {i j : Indicator} (event : LampEvent r i j) (ok : i.Ok) : j.Ok := by
  cases event with
  | preClearEnds phase =>
    have out : i.phase ≠ .pumping := by rw [phase]; decide
    unfold Indicator.preClearEnds
    split
    · exact .enterPumping r
    · exact .enterDark (ok.stopped out) (ok.low out) (by simpa using ‹¬ i.demand = true›)
  | postClearEnds phase =>
    have out : i.phase ≠ .pumping := by rw [phase]; decide
    unfold Indicator.postClearEnds
    split
    · exact .enterPreClear r (ok.stopped out) (ok.low out)
    · exact .enterDark (ok.stopped out) (ok.low out) (by simpa using ‹¬ i.demand = true›)
  | minPumpExpires phase =>
    unfold Indicator.minPumpExpires
    dsimp only
    split
    · exact ⟨ok.clear_timer, fun runs => (by cases runs), ok.pump_high, ok.dark_undemanded⟩
    · exact .enterPostClear r
  | pumpFalls phase => exact ⟨ok.clear_timer, ok.pump_timer, fun high => (by cases high), ok.dark_undemanded⟩
  | pumpRises phase => exact ⟨ok.clear_timer, ok.pump_timer, fun _ => phase, ok.dark_undemanded⟩

/-- The events of the lamp leave mode and demand alone. -/
theorem LampEvent.same {r : ConfigRecord} {i j : Indicator} (event : LampEvent r i j) :
    j.mode = i.mode ∧ j.demand = i.demand := by
  cases event with
  | preClearEnds =>
    unfold Indicator.preClearEnds
    split <;> exact ⟨rfl, rfl⟩
  | postClearEnds =>
    unfold Indicator.postClearEnds
    split <;> exact ⟨rfl, rfl⟩
  | minPumpExpires =>
    unfold Indicator.minPumpExpires
    dsimp only
    split <;> exact ⟨rfl, rfl⟩
  | pumpFalls | pumpRises => exact ⟨rfl, rfl⟩

/-- Where demand has just been derived, the lamp's rules hold of any touch list, mode and record. -/
theorem State.lampInv_deriveDemand (s : State) (ok : s.indicator.Ok) : LampInv s.deriveDemand := by
  rw [lampInv_iff, State.deriveDemand_eq]
  dsimp only
  split
  · exact ⟨ok, Eq.symm ‹_›⟩
  · exact ⟨ok.demandChanges _ _, by simp⟩

theorem State.lampInv_tick (s : State) (inv : LampInv s) : LampInv s.tick := by
  have kept (t : Timer) : t.tick.isSome = t.isSome := Option.isSome_map
  obtain ⟨ok, derived⟩ := (lampInv_iff s).mp inv
  refine (lampInv_iff _).mpr ⟨⟨?_, ?_, ok.pump_high, ok.dark_undemanded⟩, derived⟩
  · exact (iff_of_eq (congrArg (· = true) (kept _))).trans ok.clear_timer
  · exact fun runs => ok.pump_timer ((kept _).symm.trans runs)

/-- The lamp's rules look at the indicator, the touch list and the record alone. -/
theorem LampInv.congr {s t : State} (inv : LampInv s) (tracker : t.tracker = s.tracker) (store : t.store = s.store)
    (indicator : t.indicator = s.indicator) : LampInv t := by
  rw [lampInv_iff] at inv ⊢
  rwa [tracker, store, indicator]

theorem State.lampInv_completeOperation (s : State) (inv : LampInv s) : LampInv s.completeOperation := by
  unfold State.completeOperation
  split
  · exact inv
  · rw [State.foldl_queueAt_eq]
    exact inv.congr rfl rfl rfl

theorem Moves.lampInv {s t : State} (moves : Moves s t) (inv : LampInv s) : LampInv t := by
  induction moves with
  | units _ _ tracker _ store _ indicator => exact inv.congr tracker store indicator
  | records => exact inv.congr rfl rfl rfl
  | tracks => exact State.lampInv_deriveDemand _ (by simpa using ((lampInv_iff _).mp inv).1)
  | completes => exact State.lampInv_completeOperation _ inv
  | handsOver => exact inv.congr rfl rfl rfl
  | trans _ _ first rest => exact rest (first inv)

theorem Indicator.reset_ok : Indicator.reset.Ok := ⟨by decide, by decide, by decide, by decide⟩

theorem Effect.lampInv {c : Instr} {s t : State} (effect : Effect c s t) (config : ConfigInv s) (inv : LampInv s) : LampInv t := by
  obtain ⟨ok, derived⟩ := (lampInv_iff s).mp inv
  cases effect with
  | reset => exact (lampInv_iff _).mpr ⟨Indicator.reset_ok, rfl⟩
  | bus run => exact run.moves.lampInv inv
  | lamp event =>
    obtain ⟨mode, demand⟩ := event.same
    exact (lampInv_iff _).mpr ⟨event.ok ok, by dsimp only; rw [mode, demand, derived]⟩
  | writes p r inConfig =>
    obtain ⟨off, -⟩ := config.lamp_off inConfig
    refine (lampInv_iff _).mpr ⟨ok, ?_⟩
    rw [off] at derived ⊢
    exact derived
  | starts => exact State.lampInv_deriveDemand _ (ok.mode _)
  | sets => exact State.lampInv_deriveDemand _ (ok.mode _)
  | counts | port | endsRead | recalibrates | drives | pends => exact (lampInv_iff _).mpr ⟨ok, derived⟩

end Sys2Proof.Machine
end

section
/-! CLAIMS. The indicator: what every step keeps of the lamp. -/

namespace Sys2Proof.Proofs

open Sys2Proof Sys2Proof.Machine

/-- Settles O57: whatever changes the touch list or the mode derives demand again, the lamp's own events keep its timers with its
phase, and in CONFIG the mode is OFF, so that a new record leaves demand false. -/
theorem everyStepKeepsTheLamp : Obligations.EveryStepKeepsTheLamp := by
  unfold Obligations.EveryStepKeepsTheLamp
  intro s t config lamp
  refine step_leads (P := fun s => ConfigInv s ∧ LampInv s) (fun s cs n inv => ?_) (fun s inv => s.lampInv_tick inv.2)
    (fun s t effect inv => effect.lampInv inv.1 inv.2) ⟨config, lamp⟩
  exact ⟨inv.1.waiting cs n, inv.2.congr rfl rfl rfl⟩

end Sys2Proof.Proofs
end

section
/-! SUPPORT. The ranges of the channel table and of the front end (R105, R108, R116), kept by every move and effect. -/

namespace Sys2Proof.Machine

/-- The items of the processor and of the front end within their ranges. -/
structure State.InRange (s : State) : Prop where
  channels : ∀ n : Fin 8, ChannelOk s.processor.channels[n]
  blanket_le : s.processor.blanket ≤ 64
  results_le : ∀ h, s.processor.inFlight = some h → ∀ (n : Fin 8) (v : Nat), h.results[n] = some v → v ≤ 65535
  counters_le : ∀ n : Fin 8, s.frontEnd.counters[n] ≤ 65535
  length_le : s.frontEnd.lastLength ≤ 63999

theorem State.inRange_iff (s : State) : s.InRange ↔ ChannelInv s ∧ FrontEndInv s :=
  ⟨fun ok => ⟨⟨ok.channels, ok.blanket_le, ok.results_le⟩, ok.counters_le, ok.length_le⟩,
    fun ⟨⟨channels, blanket, results⟩, counters, length⟩ => ⟨channels, blanket, results, counters, length⟩⟩

/-- A locked record's filter depth is one that START accepts. -/
theorem ConfigInv.depth_le {s : State} (inv : ConfigInv s) (out : s.agreement.membership ≠ .config) :
    cfgDepth s.store.record ≤ 4 := by
  have valid := inv.record_valid (inv.locked_iff.mpr out) 15
  by_contra deep
  rw [cfgDepth_eq, not_le] at deep
  exact valid (by simp [FieldFails, deep])

theorem cfgHoldLimit_le (r : ConfigRecord) : cfgHoldLimit r ≤ 1023 := by
  have := (r.toList.getD 17 0#8).isLt
  rw [cfgHoldLimit_eq]
  unfold recordNat
  omega

/-! ## The operation -/

theorem ChannelOk.calibrateWhere {cs : Vector ChannelEntry 8} (ok : ∀ n : Fin 8, ChannelOk cs[n]) (named : Fin 8 → Bool)
    (n : Fin 8) : ChannelOk (Machine.calibrateWhere named cs)[n] := by
  rw [Fin.getElem_fin, getElem_calibrateWhere]
  split
  · exact ChannelOk.enterCalibrating _ (ok n).result_le
  · exact ok n

theorem blanketStep_le (r : ConfigRecord) (h : HandOff) (cs : Vector ChannelEntry 8) (k : Nat) :
    blanketStep r h cs k ≤ k + 1 := by
  unfold blanketStep
  repeat' split
  all_goals omega

theorem Processor.updated_ok {p : Processor} {r : ConfigRecord} {h : HandOff} (depth : cfgDepth r ≤ 4)
    (results : ∀ (n : Fin 8) (v : Nat), h.results[n] = some v → v ≤ 65535) (ok : ∀ n : Fin 8, ChannelOk p.channels[n])
    (n : Fin 8) : ChannelOk (p.updated r h n).1 := by
  unfold Processor.updated
  split
  · exact .updateChannel r n _ _ depth (cfgHoldLimit_le r) (results n) (ok n)
  · exact ok n

theorem Processor.operate_ok {p : Processor} {r : ConfigRecord} {h : HandOff} (depth : cfgDepth r ≤ 4)
    (results : ∀ (n : Fin 8) (v : Nat), h.results[n] = some v → v ≤ 65535) (ok : ∀ n : Fin 8, ChannelOk p.channels[n]) :
    (∀ n : Fin 8, ChannelOk (p.operate r h).1.channels[n]) ∧ (p.operate r h).1.blanket ≤ 64 := by
  have updated : ∀ n : Fin 8, ChannelOk (Vector.ofFn fun n => (p.updated r h n).1)[n] := fun n => by
    simpa using p.updated_ok depth results ok n
  unfold Processor.operate
  dsimp only
  split
  · exact ⟨ChannelOk.calibrateWhere updated _, Nat.zero_le 64⟩
  · exact ⟨updated, by dsimp only; omega⟩

theorem State.inRange_completeOperation (s : State) (depth : cfgDepth s.store.record ≤ 4) (ok : s.InRange) :
    s.completeOperation.InRange := by
  unfold State.completeOperation
  split
  · exact ok
  · rename_i h inFlight
    obtain ⟨channels, blanket⟩ := Processor.operate_ok depth (ok.results_le h inFlight) ok.channels
    rw [State.foldl_queueAt_eq]
    exact ⟨ChannelOk.calibrateWhere channels _, blanket, fun _ none => (by cases none), ok.counters_le, ok.length_le⟩

theorem Moves.inRange {s t : State} (moves : Moves s t) (depth : cfgDepth s.store.record ≤ 4) (ok : s.InRange) :
    t.InRange := by
  induction moves with
  | units counters length _ processor =>
    refine ⟨processor ▸ ok.channels, processor ▸ ok.blanket_le, processor ▸ ok.results_le, fun n => ?_, ?_⟩
    · rcases counters with same | zero
      · rw [same]
        exact ok.counters_le n
      · rw [zero]
        simp
    · rcases length with same | bound
      · rw [same]
        exact ok.length_le
      · exact bound
  | records => exact ⟨ok.channels, ok.blanket_le, ok.results_le, ok.counters_le, ok.length_le⟩
  | tracks =>
    constructor
    all_goals simp only [State.processor_deriveDemand, State.processor_recordAll, State.frontEnd_deriveDemand,
      State.frontEnd_recordAll]
    exacts [ok.channels, ok.blanket_le, ok.results_le, ok.counters_le, ok.length_le]
  | completes => exact State.inRange_completeOperation _ depth ok
  | handsOver results bound =>
    refine ⟨ok.channels, ok.blanket_le, fun h handed n v result => ?_, ok.counters_le, ok.length_le⟩
    obtain rfl := Option.some.inj handed
    exact (bound n v result).trans (ok.counters_le n)
  | trans first _ ihFirst ihRest => exact ihRest (first.store_eq ▸ depth) (ihFirst depth ok)

/-! ## Effects -/

theorem FrontEnd.countCycles_le {f : FrontEnd} (ok : ∀ n : Fin 8, f.counters[n] ≤ 65535) (m : Fin 8) (k : Nat)
    (n : Fin 8) : (f.countCycles m k).counters[n] ≤ 65535 := by
  simp only [FrontEnd.countCycles, Fin.getElem_fin, Vector.getElem_set]
  split
  · exact Nat.min_le_left _ _
  · exact ok n

theorem Processor.recalibrate_same (mask : Byte) (p : Processor) :
    (p.recalibrate mask).blanket = p.blanket ∧ (p.recalibrate mask).inFlight = p.inFlight := by
  unfold Processor.recalibrate
  split <;> simp_all

theorem Processor.recalibrate_ok {p : Processor} (mask : Byte) (ok : ∀ n : Fin 8, ChannelOk p.channels[n]) (n : Fin 8) :
    ChannelOk (p.recalibrate mask).channels[n] := by
  unfold Processor.recalibrate
  split
  · exact ChannelOk.calibrateWhere ok _ n
  · exact ok n

theorem State.reset_inRange : State.reset.InRange where
  channels n := by
    have entry : State.reset.processor.channels[n] = ChannelEntry.reset := by simp [State.reset, Processor.reset]
    rw [entry]
    constructor <;> simp [ChannelEntry.reset]
  blanket_le := Nat.zero_le 64
  results_le h none := by cases none
  counters_le n := by simp [State.reset, FrontEnd.reset]
  length_le := Nat.zero_le _

theorem Effect.inRange {c : Instr} {s t : State} (effect : Effect c s t) (config : ConfigInv s) (ok : s.InRange) : t.InRange := by
  obtain ⟨channels, blanket, results, counters, length⟩ := ok
  cases effect with
  | reset =>
    obtain ⟨channels, blanket, results, counters, length⟩ := State.reset_inRange
    exact ⟨channels, blanket, results, counters, length⟩
  | bus run =>
    by_cases out : s.agreement.membership = .config
    · obtain ⟨b, rfl, -⟩ := run.of_off (config.off_iff.mp out) (config.nothing_in_flight out)
      exact ⟨channels, blanket, results, counters, length⟩
    · exact run.moves.inRange (config.depth_le out) ⟨channels, blanket, results, counters, length⟩
  | counts n k => exact ⟨channels, blanket, results, FrontEnd.countCycles_le counters n k, length⟩
  | starts =>
    constructor
    all_goals simp only [State.startEffects, State.processor_setMode, State.processor_setMembership,
      State.frontEnd_setMode, State.frontEnd_setMembership]
    exacts [ChannelOk.calibrateWhere channels _, Nat.zero_le 64, results, counters, length]
  | recalibrates _ mask =>
    obtain ⟨sameBlanket, sameFlight⟩ := s.processor.recalibrate_same mask
    exact ⟨Processor.recalibrate_ok mask channels, sameBlanket ▸ blanket, sameFlight ▸ results, counters, length⟩
  | sets =>
    constructor
    all_goals simp only [State.processor_setMode, State.frontEnd_setMode]
    exacts [channels, blanket, results, counters, length]
  | lamp | port | endsRead | writes | drives | pends => exact ⟨channels, blanket, results, counters, length⟩

end Sys2Proof.Machine
end

section
/-! CLAIMS. The channel processor and the front end: the ranges that every step keeps. -/

namespace Sys2Proof.Proofs

open Sys2Proof Sys2Proof.Machine

/-- Settles O58: a window closes below the break limit with results that do not exceed their counters, and an operation runs
out of CONFIG alone, where the record has passed START's checks. -/
theorem everyStepKeepsTheChannelRanges : Obligations.EveryStepKeepsTheChannelRanges := by
  unfold Obligations.EveryStepKeepsTheChannelRanges
  intro s t config channels frontEnd stepped
  rw [← State.inRange_iff]
  refine step_leads (P := fun s => ConfigInv s ∧ s.InRange) (fun s cs n inv => ⟨inv.1.waiting cs n, ?_⟩)
    (fun s inv => ?_) (fun s t effect inv => effect.inRange inv.1 inv.2)
    ⟨config, s.inRange_iff.mpr ⟨channels, frontEnd⟩⟩ stepped
  all_goals exact ⟨inv.2.channels, inv.2.blanket_le, inv.2.results_le, inv.2.counters_le, inv.2.length_le⟩

end Sys2Proof.Proofs
end

section
/-! SUPPORT. The tracking step: the search for the nearest record, the three stages, and what they keep of the touch list
(R48 to R57). -/

namespace Sys2Proof.Machine

/-! ## The nearest record (R50) -/

/-- The distance of a record from position `pos`. -/
def Candidate.gap (pos : Nat) (c : Candidate) : Nat := distance c.touch.position pos

theorem Candidate.gap_eq (pos : Nat) (c : Candidate) : c.gap pos = ((c.touch.position : Int) - pos).natAbs :=
  distance_eq_natAbs _ _

theorem Candidate.gap_eq_zero_iff (pos : Nat) (c : Candidate) : c.gap pos = 0 ↔ c.touch.position = pos := by
  rw [Candidate.gap_eq]
  omega

/-- `c`, at place `i`, is unmatched within the radius, and no other unmatched record is nearer, or as near and older. -/
structure Nearest (radius pos : Nat) (cs : List Candidate) (i : Nat) (c : Candidate) : Prop where
  here : cs[i]? = some c
  unmatched : c.matched = false
  within : c.gap pos ≤ radius
  least : ∀ j d, cs[j]? = some d → d.matched = false → c.gap pos < d.gap pos ∨ (c.gap pos = d.gap pos ∧ i ≤ j)

section Search

variable {radius pos : Nat}

/-- An unmatched record within the radius, nearer than the best so far, becomes the best. -/
theorem nearestFrom_cons_of_closer {c : Candidate} {best : Option (Nat × Nat)} (i : Nat) (cs : List Candidate)
    (unmatched : c.matched = false) (within : c.gap pos ≤ radius) (nearer : ∀ b, best = some b → c.gap pos < b.2) :
    nearestFrom radius pos i best (c :: cs) = nearestFrom radius pos (i + 1) (some (i, c.gap pos)) cs := by
  unfold Candidate.gap at within nearer ⊢
  cases best with
  | none => simp [nearestFrom, unmatched, within]
  | some b => simp [nearestFrom, unmatched, within, nearer b rfl]

/-- Any other record is passed over. -/
theorem nearestFrom_cons_of_not {c : Candidate} {best : Option (Nat × Nat)} (i : Nat) (cs : List Candidate)
    (not : c.matched = false → c.gap pos ≤ radius → ∃ b, best = some b ∧ b.2 ≤ c.gap pos) :
    nearestFrom radius pos i best (c :: cs) = nearestFrom radius pos (i + 1) best cs := by
  unfold Candidate.gap at not
  by_cases near : c.matched = false ∧ distance c.touch.position pos ≤ radius
  · obtain ⟨b, rfl, le⟩ := not near.1 near.2
    simp [nearestFrom, Nat.not_lt.mpr le]
  · have far : ¬ ((!c.matched && decide (distance c.touch.position pos ≤ radius)) = true) := by simpa using near
    cases best <;> simp [nearestFrom, far]

/-- The search keeps the best place so far where no unmatched record within the radius is strictly nearer. -/
theorem nearestFrom_of_best {cs : List Candidate} {best : Option (Nat × Nat)} (i : Nat)
    (kept : ∀ c ∈ cs, c.matched = false → c.gap pos ≤ radius → ∃ b, best = some b ∧ b.2 ≤ c.gap pos) :
    nearestFrom radius pos i best cs = best.map Prod.fst := by
  induction cs generalizing i with
  | nil => rfl
  | cons c cs ih =>
    rw [nearestFrom_cons_of_not i cs (kept c List.mem_cons_self)]
    exact ih (i + 1) fun d mem => kept d (List.mem_cons_of_mem c mem)

/-- The search finds the nearest unmatched record, the earliest at equal distance. -/
theorem nearestFrom_of_nearest {cs : List Candidate} {best : Option (Nat × Nat)} {j : Nat} {c : Candidate} (i : Nat)
    (nearest : Nearest radius pos cs j c) (better : ∀ b, best = some b → c.gap pos < b.2) :
    nearestFrom radius pos i best cs = some (i + j) := by
  induction cs generalizing i j best with
  | nil => cases nearest.here
  | cons x cs ih =>
    cases j with
    | zero =>
      obtain rfl : x = c := by simpa using nearest.here
      rw [nearestFrom_cons_of_closer i cs nearest.unmatched nearest.within better]
      refine nearestFrom_of_best (i + 1) fun d mem unmatched _ => ⟨_, rfl, ?_⟩
      obtain ⟨k, at_k⟩ := List.mem_iff_getElem?.mp mem
      have := nearest.least (k + 1) d (by simpa using at_k) unmatched
      dsimp only
      omega
    | succ j =>
      have later : Nearest radius pos cs j c :=
        { here := by simpa using nearest.here
          unmatched := nearest.unmatched
          within := nearest.within
          least := fun k d at_k unmatched => by
            have := nearest.least (k + 1) d (by simpa using at_k) unmatched
            omega }
      rw [show i + (j + 1) = i + 1 + j by omega]
      by_cases closer : x.matched = false ∧ x.gap pos ≤ radius ∧ ∀ b, best = some b → x.gap pos < b.2
      · obtain ⟨unmatched, within, nearer⟩ := closer
        rw [nearestFrom_cons_of_closer i cs unmatched within nearer]
        refine ih (i + 1) later fun b new => ?_
        obtain rfl := Option.some.inj new
        have := nearest.least 0 x rfl unmatched
        dsimp only
        omega
      · push Not at closer
        rw [nearestFrom_cons_of_not i cs closer]
        exact ih (i + 1) later better

/-- Where an unmatched record lies within the radius there is a nearest one. -/
theorem exists_nearest {cs : List Candidate} (free : ∃ c ∈ cs, c.matched = false ∧ c.gap pos ≤ radius) :
    ∃ i c, Nearest radius pos cs i c := by
  induction cs with
  | nil => simp at free
  | cons x cs ih =>
    by_cases behind : ∃ c ∈ cs, c.matched = false ∧ c.gap pos ≤ radius
    · obtain ⟨i, c, nearest⟩ := ih behind
      by_cases first : x.matched = false ∧ x.gap pos ≤ c.gap pos
      · obtain ⟨unmatched, le⟩ := first
        refine ⟨0, x, rfl, unmatched, le.trans nearest.within, fun j d at_j free => ?_⟩
        cases j with
        | zero =>
          obtain rfl : x = d := by simpa using at_j
          exact .inr ⟨rfl, le_rfl⟩
        | succ j =>
          have := nearest.least j d (by simpa using at_j) free
          omega
      · refine ⟨i + 1, c, by simpa using nearest.here, nearest.unmatched, nearest.within, fun j d at_j free => ?_⟩
        cases j with
        | zero =>
          obtain rfl : x = d := by simpa using at_j
          exact .inl (by_contra fun le => first ⟨free, not_lt.mp le⟩)
        | succ j =>
          have := nearest.least j d (by simpa using at_j) free
          omega
    · obtain ⟨c, mem, unmatched, within⟩ := free
      rcases List.mem_cons.mp mem with rfl | mem
      · refine ⟨0, c, rfl, unmatched, within, fun j d at_j free => ?_⟩
        cases j with
        | zero =>
          obtain rfl : c = d := by simpa using at_j
          exact .inr ⟨rfl, le_rfl⟩
        | succ j =>
          have mem : d ∈ cs := List.mem_of_getElem? (by simpa using at_j)
          by_cases near : d.gap pos ≤ radius
          · exact absurd ⟨d, mem, free, near⟩ behind
          · omega
      · exact absurd ⟨c, mem, unmatched, within⟩ behind

end Search

/-! ## The match stage (R50, R51) -/

theorem matchWinner_of_nearest {radius : Nat} {m : MatchWork} {w : Winner} {i : Nat} {c : Candidate}
    (nearest : Nearest radius w.position m.candidates i c) : matchWinner radius m w = m.take w i c := by
  have found : nearestFrom radius w.position 0 none m.candidates = some i := by
    simpa using nearestFrom_of_nearest 0 nearest (best := none) (by simp)
  simp only [matchWinner, found, nearest.here]

theorem matchWinner_of_none {radius : Nat} {m : MatchWork} {w : Winner}
    (none : ∀ c ∈ m.candidates, c.matched = true ∨ radius < c.gap w.position) :
    matchWinner radius m w = { m with unmatched := m.unmatched ++ [w] } := by
  have found : nearestFrom radius w.position 0 Option.none m.candidates = Option.none := by
    refine nearestFrom_of_best 0 fun c mem unmatched within => ?_
    rcases none c mem with matched | far
    · rw [unmatched] at matched
      cases matched
    · omega
  simp only [matchWinner, found]

/-- One winner takes the nearest record, or is left unmatched where there is none. -/
theorem matchWinner_cases (radius : Nat) (m : MatchWork) (w : Winner) :
    (∃ i c, Nearest radius w.position m.candidates i c ∧ matchWinner radius m w = m.take w i c) ∨
      ((∀ c ∈ m.candidates, c.matched = true ∨ radius < c.gap w.position) ∧
        matchWinner radius m w = { m with unmatched := m.unmatched ++ [w] }) := by
  by_cases free : ∃ c ∈ m.candidates, c.matched = false ∧ c.gap w.position ≤ radius
  · obtain ⟨i, c, nearest⟩ := exists_nearest free
    exact .inl ⟨i, c, nearest, matchWinner_of_nearest nearest⟩
  · have none : ∀ c ∈ m.candidates, c.matched = true ∨ radius < c.gap w.position := by
      intro c mem
      cases matched : c.matched with
      | true => exact .inl rfl
      | false => exact .inr (by_contra fun near => free ⟨c, mem, matched, not_lt.mp near⟩)
    exact .inr ⟨none, matchWinner_of_none none⟩

/-- A record that a winner has matched (R51). -/
def Candidate.matchedBy (w : Winner) (c : Candidate) : Candidate :=
  { touch := { c.touch with position := w.position, strength := w.strength, miss := 0 }, matched := true }

/-- The match stage's work after winners at the positions `done`: the records as R45 and R46 say, a record's position among
`done` exactly where it has been matched, and the winners left unmatched at positions of their own. -/
structure MatchOk (nextId : Nat) (done : List Nat) (m : MatchWork) : Prop where
  length_le : m.candidates.length ≤ 4
  ids_distinct : (m.candidates.map fun c => c.touch.id).Nodup
  ids_range : ∀ c ∈ m.candidates, (1 ≤ c.touch.id ∧ c.touch.id ≤ 255) ∧ c.touch.id ≠ nextId
  positions_distinct : (m.candidates.map fun c => c.touch.position).Nodup
  positions_lt : ∀ c ∈ m.candidates, c.touch.position < 256
  matched_iff : ∀ c ∈ m.candidates, c.matched = true ↔ c.touch.position ∈ done
  left_done : ∀ w ∈ m.unmatched, w.position ∈ done ∧ w.position < 256
  left_distinct : (m.unmatched.map Winner.position).Nodup
  left_apart : ∀ w ∈ m.unmatched, ∀ c ∈ m.candidates, c.touch.position ≠ w.position

theorem MatchOk.start {t : Tracker} (ok : TouchListOk t) :
    MatchOk t.nextId []
      { candidates := t.touches.map fun r => { touch := r, matched := false }, unmatched := [], events := [] } where
  length_le := by simpa using ok.length_le
  ids_distinct := by simpa [Function.comp_def] using ok.ids_distinct
  ids_range := by
    simp only [List.mem_map, forall_exists_index, and_imp, forall_apply_eq_imp_iff₂]
    exact fun r mem => ⟨ok.ids_range r mem, ok.next_free r mem⟩
  positions_distinct := by simpa [Function.comp_def] using ok.positions_distinct
  positions_lt := by
    simp only [List.mem_map, forall_exists_index, and_imp, forall_apply_eq_imp_iff₂]
    exact fun r mem => ok.positions_lt r mem
  matched_iff := by simp
  left_done := by simp
  left_distinct := by simp
  left_apart := by simp

theorem MatchOk.leave {nextId : Nat} {done : List Nat} {m : MatchWork} (ok : MatchOk nextId done m) {radius : Nat}
    {w : Winner} (new : w.position ∉ done) (lt : w.position < 256)
    (none : ∀ c ∈ m.candidates, c.matched = true ∨ radius < c.gap w.position) :
    MatchOk nextId (done ++ [w.position]) { m with unmatched := m.unmatched ++ [w] } := by
  have apart : ∀ c ∈ m.candidates, c.touch.position ≠ w.position := by
    intro c mem same
    rcases none c mem with matched | far
    · exact new (same ▸ (ok.matched_iff c mem).mp matched)
    · rw [(c.gap_eq_zero_iff _).mpr same] at far
      omega
  refine { ok with matched_iff := fun c mem => ?_, left_done := fun v mem => ?_, left_distinct := ?_,
                   left_apart := fun v mem => ?_ }
  · rw [ok.matched_iff c mem, List.mem_append, List.mem_singleton, or_iff_left (apart c mem)]
  · rcases List.mem_append.mp mem with mem | mem
    · exact ⟨List.mem_append_left _ (ok.left_done v mem).1, (ok.left_done v mem).2⟩
    · obtain rfl := List.mem_singleton.mp mem
      exact ⟨by simp, lt⟩
  · rw [List.map_append, List.map_singleton, List.nodup_append]
    refine ⟨ok.left_distinct, by simp, fun p mem q single same => ?_⟩
    obtain ⟨v, left, rfl⟩ := List.mem_map.mp mem
    rw [List.mem_singleton] at single
    exact new (single ▸ same ▸ (ok.left_done v left).1)
  · rcases List.mem_append.mp mem with mem | mem
    · exact ok.left_apart v mem
    · obtain rfl := List.mem_singleton.mp mem
      exact apart

theorem MatchOk.take {nextId : Nat} {done : List Nat} {m : MatchWork} (ok : MatchOk nextId done m) {radius i : Nat}
    {w : Winner} {c : Candidate} (new : w.position ∉ done) (lt : w.position < 256)
    (nearest : Nearest radius w.position m.candidates i c) : MatchOk nextId (done ++ [w.position]) (m.take w i c) := by
  obtain ⟨inside, here⟩ := List.getElem?_eq_some_iff.mp nearest.here
  have split : m.candidates = m.candidates.take i ++ c :: m.candidates.drop (i + 1) := by
    rw [← here, List.getElem_cons_drop, List.take_append_drop]
  have taken : (m.take w i c).candidates =
      m.candidates.take i ++ c.matchedBy w :: m.candidates.drop (i + 1) := by
    simp only [MatchWork.take, List.set_eq_take_append_cons_drop, if_pos inside]
    rfl
  generalize m.candidates.take i = before at split taken
  generalize m.candidates.drop (i + 1) = after at split taken
  have others : ∀ d ∈ before ++ after, d ∈ m.candidates := fun d mem => by
    rw [split]
    simp only [List.mem_append, List.mem_cons] at mem ⊢
    tauto
  have cMem : c ∈ m.candidates := List.mem_of_getElem? nearest.here
  have apart : ∀ d ∈ before ++ after, d.touch.position ≠ w.position := by
    intro d mem same
    have distinct := ok.positions_distinct
    rw [split, List.map_append, List.map_cons, List.nodup_middle, List.nodup_cons, ← List.map_append] at distinct
    cases matched : d.matched with
    | true => exact new (same ▸ (ok.matched_iff d (others d mem)).mp matched)
    | false =>
      obtain ⟨j, at_j⟩ := List.mem_iff_getElem?.mp (others d mem)
      have zero := (d.gap_eq_zero_iff _).mpr same
      have le := nearest.least j d at_j matched
      have c_at : c.touch.position = w.position := (c.gap_eq_zero_iff _).mp (by omega)
      exact distinct.1 (List.mem_map.mpr ⟨d, mem, same.trans c_at.symm⟩)
  have membership {P : Candidate → Prop} (taken' : P (c.matchedBy w)) (rest : ∀ d ∈ before ++ after, P d) :
      ∀ d ∈ (m.take w i c).candidates, P d := by
    intro d mem
    rw [taken, List.mem_append, List.mem_cons] at mem
    rcases mem with mem | rfl | mem
    · exact rest d (List.mem_append_left _ mem)
    · exact taken'
    · exact rest d (List.mem_append_right _ mem)
  constructor
  · have length := ok.length_le
    simpa [MatchWork.take] using length
  · have distinct := ok.ids_distinct
    rw [split] at distinct
    rw [taken]
    simpa [Candidate.matchedBy] using distinct
  · exact membership (ok.ids_range c cMem) fun d mem => ok.ids_range d (others d mem)
  · have distinct := ok.positions_distinct
    rw [split, List.map_append, List.map_cons, List.nodup_middle, List.nodup_cons, ← List.map_append] at distinct
    rw [taken, List.map_append, List.map_cons, List.nodup_middle, List.nodup_cons, ← List.map_append]
    refine ⟨fun mem => ?_, distinct.2⟩
    obtain ⟨d, mem, same⟩ := List.mem_map.mp mem
    exact apart d mem same
  · exact membership lt fun d mem => ok.positions_lt d (others d mem)
  · refine membership (by simp [Candidate.matchedBy]) fun d mem => ?_
    rw [ok.matched_iff d (others d mem), List.mem_append, List.mem_singleton, or_iff_left (apart d mem)]
  · exact fun v mem => ⟨List.mem_append_left _ (ok.left_done v mem).1, (ok.left_done v mem).2⟩
  · exact ok.left_distinct
  · refine fun v mem => membership (fun same => new ?_) fun d dMem => ok.left_apart v mem d (others d dMem)
    exact (show w.position = v.position from same) ▸ (ok.left_done v mem).1

theorem MatchOk.matchStage {t : Tracker} (ok : TouchListOk t) (radius : Nat) {ws : List Winner}
    (distinct : (ws.map Winner.position).Nodup) (lt : ∀ w ∈ ws, w.position < 256) :
    MatchOk t.nextId (ws.map Winner.position) (Machine.matchStage radius ws t.touches) := by
  have fold (vs : List Winner) (done : List Nat) (m : MatchWork) (ok : MatchOk t.nextId done m)
      (distinct : (done ++ vs.map Winner.position).Nodup) (lt : ∀ w ∈ vs, w.position < 256) :
      MatchOk t.nextId (done ++ vs.map Winner.position) (vs.foldl (matchWinner radius) m) := by
    induction vs generalizing done m with
    | nil => simpa using ok
    | cons w vs ih =>
      have here : w.position ∉ done := fun mem => by
        simp only [List.map_cons, List.nodup_append] at distinct
        exact distinct.2.2 _ mem _ List.mem_cons_self rfl
      have next : MatchOk t.nextId (done ++ [w.position]) (matchWinner radius m w) := by
        rcases matchWinner_cases radius m w with ⟨i, c, nearest, eq⟩ | ⟨none, eq⟩
        · rw [eq]
          exact ok.take here (lt w List.mem_cons_self) nearest
        · rw [eq]
          exact ok.leave here (lt w List.mem_cons_self) none
      have := ih _ _ next (by simpa using distinct) fun v mem => lt v (List.mem_cons_of_mem w mem)
      simpa using this
  exact fold ws [] _ (.start ok) distinct lt

/-! ## The age stage (R52) -/

/-- A record that the age stage keeps. -/
def Candidate.stays (lift : Nat) (c : Candidate) : Bool := c.matched || decide (c.touch.miss + 1 ≤ lift)

/-- A record as the age stage keeps it. -/
def Candidate.aged (c : Candidate) : TouchRecord :=
  if c.matched then c.touch else { c.touch with miss := c.touch.miss + 1 }

theorem ageRecord_eq (lift : Nat) (c : Candidate) : ageRecord lift c = if c.stays lift then some c.aged else none := by
  unfold ageRecord Candidate.stays Candidate.aged
  cases c.matched <;> simp

theorem ageEvent_eq (lift : Nat) (c : Candidate) :
    ageEvent lift c =
      if c.stays lift then none else some (.touchUp c.touch.id c.touch.position c.touch.strength) := by
  unfold ageEvent
  rw [ageRecord_eq]
  cases c.stays lift <;> rfl

/-- The records that stay are aged, in their order. -/
theorem filterMap_ageRecord (lift : Nat) (cs : List Candidate) :
    cs.filterMap (ageRecord lift) = (cs.filter (Candidate.stays lift)).map Candidate.aged := by
  induction cs with
  | nil => rfl
  | cons c cs ih => cases stays : c.stays lift <;> simp [ageRecord_eq lift c, stays, ih]

theorem filterMap_ageEvent (lift : Nat) (cs : List Candidate) :
    cs.filterMap (ageEvent lift) =
      (cs.filter fun c => !c.stays lift).map fun c => .touchUp c.touch.id c.touch.position c.touch.strength := by
  induction cs with
  | nil => rfl
  | cons c cs ih => cases stays : c.stays lift <;> simp [ageEvent_eq lift c, stays, ih]

@[simp] theorem Candidate.id_aged (c : Candidate) : c.aged.id = c.touch.id := by
  unfold Candidate.aged
  split <;> rfl

@[simp] theorem Candidate.position_aged (c : Candidate) : c.aged.position = c.touch.position := by
  unfold Candidate.aged
  split <;> rfl

/-- After the age stage the list is as R45 and R46 say. -/
theorem MatchOk.aged {nextId : Nat} {done : List Nat} {m : MatchWork} (ok : MatchOk nextId done m) (lift : Nat)
    (range : 1 ≤ nextId ∧ nextId ≤ 255) :
    TouchListOk { touches := m.candidates.filterMap (ageRecord lift), nextId := nextId } := by
  have stay : (m.candidates.filter (Candidate.stays lift)).Sublist m.candidates := List.filter_sublist
  have inside {P : TouchRecord → Prop} (all : ∀ c ∈ m.candidates, P c.aged) :
      ∀ r ∈ m.candidates.filterMap (ageRecord lift), P r := by
    intro r mem
    rw [filterMap_ageRecord] at mem
    obtain ⟨c, kept, rfl⟩ := List.mem_map.mp mem
    exact all c (stay.subset kept)
  constructor
  · rw [filterMap_ageRecord, List.length_map]
    exact stay.length_le.trans ok.length_le
  · rw [filterMap_ageRecord, List.map_map]
    simpa [Function.comp_def] using (stay.map _).nodup ok.positions_distinct
  · exact inside fun c mem => by simpa using ok.positions_lt c mem
  · rw [filterMap_ageRecord, List.map_map]
    simpa [Function.comp_def] using (stay.map _).nodup ok.ids_distinct
  · exact inside fun c mem => by simpa using (ok.ids_range c mem).1
  · exact range
  · exact inside fun c mem => by simpa using (ok.ids_range c mem).2

/-! ## The create stage (R53, R54) -/

theorem createTouch_of_full (t : Tracker) (es : List Event) (w : Winner) (h : 4 ≤ t.touches.length) :
    createTouch (t, es) w = (t, es) := by
  simp [createTouch, Nat.not_lt.mpr h]

/-- A touch at a position of its own keeps the list as R45 and R46 say. -/
theorem TouchListOk.createTouch {t : Tracker} (ok : TouchListOk t) (es : List Event) {w : Winner}
    (lt : w.position < 256) (apart : ∀ r ∈ t.touches, r.position ≠ w.position) :
    TouchListOk (Machine.createTouch (t, es) w).1 ∧
      ∀ r ∈ (Machine.createTouch (t, es) w).1.touches, r ∈ t.touches ∨ r.position = w.position := by
  by_cases room : t.touches.length < 4
  · rw [createTouch_of_room t es w room]
    dsimp only
    generalize made : ({ id := t.nextId, position := w.position, strength := w.strength, miss := 0 } : TouchRecord) = new
    have id : new.id = t.nextId := by rw [← made]
    have position : new.position = w.position := by rw [← made]
    have inside {P : TouchRecord → Prop} (old : ∀ r ∈ t.touches, P r) (here : P new) :
        ∀ r ∈ t.touches ++ [new], P r := by
      intro r mem
      rcases List.mem_append.mp mem with mem | mem
      · exact old r mem
      · exact List.mem_singleton.mp mem ▸ here
    have length : (t.touches ++ [new]).length ≤ 4 := by simpa using room
    obtain ⟨k, -, value, free, -⟩ := freeIdFrom_idAfter t.nextId (t.touches ++ [new]) ok.next_range.1 ok.next_range.2
      (by omega) ⟨new, by simp, id⟩
    refine ⟨⟨length, ?_, inside ok.positions_lt (position ▸ lt), ?_, inside ok.ids_range (id ▸ ok.next_range), ?_, ?_⟩,
      inside (fun r mem => .inl mem) (.inr position)⟩
    · rw [List.map_append, List.map_singleton, List.nodup_append]
      refine ⟨ok.positions_distinct, by simp, fun p mem q single => ?_⟩
      obtain ⟨r, old, rfl⟩ := List.mem_map.mp mem
      rw [List.mem_singleton.mp single, position]
      exact apart r old
    · rw [List.map_append, List.map_singleton, List.nodup_append]
      refine ⟨ok.ids_distinct, by simp, fun p mem q single => ?_⟩
      obtain ⟨r, old, rfl⟩ := List.mem_map.mp mem
      rw [List.mem_singleton.mp single, id]
      exact ok.next_free r old
    · dsimp only
      rw [value]
      omega
    · dsimp only
      rw [value]
      exact free
  · rw [createTouch_of_full t es w (not_lt.mp room)]
    exact ⟨ok, fun r mem => .inl mem⟩

theorem TouchListOk.createAll {t : Tracker} (ok : TouchListOk t) (es : List Event) {ws : List Winner}
    (distinct : (ws.map Winner.position).Nodup) (lt : ∀ w ∈ ws, w.position < 256)
    (apart : ∀ w ∈ ws, ∀ r ∈ t.touches, r.position ≠ w.position) :
    TouchListOk (ws.foldl Machine.createTouch (t, es)).1 := by
  induction ws generalizing t es with
  | nil => exact ok
  | cons w ws ih =>
    obtain ⟨head, distinct⟩ := List.nodup_cons.mp distinct
    obtain ⟨created, old⟩ := ok.createTouch es (lt w List.mem_cons_self) (apart w List.mem_cons_self)
    refine ih created _ distinct (fun v mem => lt v (List.mem_cons_of_mem w mem)) fun v mem r mem' => ?_
    rcases old r mem' with mem' | same
    · exact apart v (List.mem_cons_of_mem w mem) r mem'
    · rw [same]
      exact fun equal => head (List.mem_map.mpr ⟨v, mem, equal.symm⟩)

/-! ## The whole step -/

/-- The tracking step keeps the touch list as R45 and R46 say, where the winners stand at distinct positions. -/
theorem TouchListOk.trackingStep {t : Tracker} (ok : TouchListOk t) (radius lift : Nat) {ws : List Winner}
    (distinct : (ws.map Winner.position).Nodup) (lt : ∀ w ∈ ws, w.position < 256) :
    TouchListOk (Machine.trackingStep radius lift ws t).1 := by
  have work := MatchOk.matchStage ok radius distinct lt
  refine (work.aged lift ok.next_range).createAll _ work.left_distinct (fun w mem => (work.left_done w mem).2) ?_
  intro w mem r aged
  dsimp only at aged
  rw [filterMap_ageRecord] at aged
  obtain ⟨c, stays, rfl⟩ := List.mem_map.mp aged
  rw [Candidate.position_aged]
  exact work.left_apart w mem c (List.mem_of_mem_filter stays)

/-- The step as its stages: the winners match, the unmatched records age, the unmatched winners create touches (R48, R55). -/
theorem trackingStep_eq_stages (radius lift : Nat) (ws : List Winner) (t : Tracker) :
    trackingStep radius lift ws t =
      let m := matchStage radius ws t.touches
      m.unmatched.foldl createTouch
        ({ touches := (m.candidates.filter (Candidate.stays lift)).map Candidate.aged, nextId := t.nextId },
          m.events ++ (m.candidates.filter fun c => !c.stays lift).map fun c =>
            .touchUp c.touch.id c.touch.position c.touch.strength) := by
  simp only [trackingStep, filterMap_ageRecord, filterMap_ageEvent]

/-- Without winners every record ages. -/
theorem trackingStep_nil (radius lift : Nat) (t : Tracker) :
    trackingStep radius lift [] t =
      ({ t with touches := (t.touches.filter fun r => decide (r.miss + 1 ≤ lift)).map fun r =>
          { r with miss := r.miss + 1 } },
        (t.touches.filter fun r => decide (lift < r.miss + 1)).map fun r => .touchUp r.id r.position r.strength) := by
  rw [trackingStep_eq_stages]
  simp only [matchStage, List.foldl_nil, Candidate.stays, Candidate.aged, List.filter_map, List.map_map,
    Function.comp_def, Bool.false_or, ← decide_not, not_le, List.nil_append]
  rfl

/-- A station applies the step with its own radius and lift delay, and derives demand again (R48, R163). -/
theorem State.track_eq (ws : List Winner) (s : State) :
    s.track ws =
      let u := trackingStep (cfgCapture s.store.record) (cfgLiftDelay s.store.record) ws s.tracker
      let d := demandOf s.store.record s.indicator.mode u.1.touches
      { s with
        tracker := u.1
        queue := u.2.foldl (fun q e => q.arrive { stamp := s.bus.stamp, event := e }) s.queue
        indicator := if d = s.indicator.demand then s.indicator else s.indicator.demandChanges s.store.record d } := by
  simp only [State.track, State.deriveDemand_eq, State.recordAll_eq]

end Sys2Proof.Machine
end

section
/-! CLAIMS. The touch list: the stages of the tracking step. -/

namespace Sys2Proof.Proofs

open Sys2Proof Sys2Proof.Machine

/-- Settles O51: the search finds the nearest record by induction on the list; the stages are those of the definition, with the age
stage's removals and records told apart by one test. -/
theorem trackingStagesMatchAgeAndCreate : Obligations.TrackingStagesMatchAgeAndCreate := by
  unfold Obligations.TrackingStagesMatchAgeAndCreate
  refine ⟨fun radius w m => ?matching, fun t es w => ?creating, fun radius lift ws t => ?step, trackingStep_nil,
    fun ws s => s.track_eq ws⟩
  case matching =>
    simp only [← Candidate.gap_eq]
    exact ⟨fun i c here unmatched within least => matchWinner_of_nearest ⟨here, unmatched, within, least⟩,
      matchWinner_of_none⟩
  case creating => exact ⟨createTouch_of_room t es w, createTouch_of_full t es w⟩
  case step => exact trackingStep_eq_stages radius lift ws t

end Sys2Proof.Proofs
end

section
/-! SUPPORT. The surface's shared state out of CONFIG: what the blocks keep whatever the bus engine does, and where the bus
engine stands. -/

namespace Sys2Proof.Machine

/-! ## Out of CONFIG -/

/-- What holds of contest unit, agreement unit and tracker out of CONFIG, whatever the phase of the bus engine. -/
structure State.CoreOk (s : State) : Prop where
  out : s.agreement.membership ≠ .config
  part_member : s.agreement.part = some .member → s.agreement.membership = .member
  part_listener : s.agreement.part = some .listener ∨ s.agreement.part = some .forcing →
    s.agreement.membership = .listen ∨ s.agreement.membership = .member
  bidder_member : s.contest.inContest = true → s.agreement.membership = .member
  descending : s.contest.winners.Pairwise fun x y => y.value < x.value ∧ x.position ≠ y.position
  positions : ∀ w ∈ s.contest.winners, w.position < 256
  tracker : TrackerInv s

/-- Where the bus engine stands: not in OFF, before the digest passes without a part, and with as many winners as the contest
count leaves room for. -/
structure State.Placed (s : State) : Prop where
  on : s.bus.phase ≠ .off
  part_discarded : s.bus.phase.beforeDigest = true → s.agreement.part = none
  room : contestRoom s.bus.phase s.bus.contestCount s.contest.winners.length

/-- In service the surface's state is that of the blocks and the place of the bus engine. -/
theorem surfaceInv_of_service {s : State} (core : s.CoreOk) (placed : s.Placed) (locked : s.store.locked = true)
    (valid : ∀ k, ¬ FieldFails s.store.record k) : SurfaceInv s where
  config :=
    { off_iff := iff_of_false core.out placed.on
      locked_iff := iff_of_true locked core.out
      queue_empty := fun config => absurd config core.out
      tracker_reset := fun config => absurd config core.out
      nothing_in_flight := fun config => absurd config core.out
      not_counting := fun config => absurd config core.out
      lamp_off := fun config => absurd config core.out
      record_valid := fun _ => valid }
  role := ⟨placed.part_discarded, core.part_member, core.part_listener, core.bidder_member⟩
  winner := ⟨core.descending, core.positions, placed.room⟩
  tracker := core.tracker

theorem SurfaceInv.core {s : State} (inv : SurfaceInv s) (out : s.agreement.membership ≠ .config) : s.CoreOk :=
  ⟨out, inv.role.part_member, inv.role.part_listener, inv.role.bidder_member, inv.winner.descending, inv.winner.positions,
    inv.tracker⟩

theorem SurfaceInv.placed {s : State} (inv : SurfaceInv s) (out : s.agreement.membership ≠ .config) : s.Placed :=
  ⟨fun off => out (inv.config.off_iff.mpr off), inv.role.part_discarded, inv.winner.room⟩

/-! ## Changes that the blocks' rules bear -/

/-- A phantom: the address read recessive, or the winner does not follow those before it at a position of its own (R33). -/
theorem State.isPhantom_iff (w : Winner) (s : State) :
    s.isPhantom w = true ↔ s.peers.presence[w.address]? = some (some false) ∨
      ∃ x ∈ s.contest.winners, x.value ≤ w.value ∨ x.position = w.position := by
  simp only [State.isPhantom, Bool.or_eq_true, beq_iff_eq, List.any_eq_true, decide_eq_true_eq]

theorem TouchListOk.reset : TouchListOk Tracker.reset :=
  ⟨by decide, by decide, by decide, by decide, by decide, by decide, by decide⟩

namespace State.CoreOk

variable {s t : State}

/-- A change of membership to one out of CONFIG, of the contest unit and of the touch list, with the part kept. -/
theorem change (ok : s.CoreOk) (out : t.agreement.membership ≠ .config)
    (member : s.agreement.membership = .member → t.agreement.membership = .member)
    (listener : s.agreement.membership = .listen → t.agreement.membership = .listen ∨ t.agreement.membership = .member)
    (part : t.agreement.part = s.agreement.part ∨ t.agreement.part = none)
    (bidder : t.contest.inContest = true → s.contest.inContest = true)
    (winners : t.contest.winners = s.contest.winners ∨ t.contest.winners = [])
    (tracker : t.tracker = s.tracker ∨ t.tracker = Tracker.reset) : t.CoreOk where
  out := out
  part_member h := by
    rcases part with part | part
    · exact member (ok.part_member (part ▸ h))
    · rw [part] at h
      cases h
  part_listener h := by
    rcases part with part | part
    · exact (ok.part_listener (part ▸ h)).elim listener fun m => .inr (member m)
    · simp [part] at h
  bidder_member h := member (ok.bidder_member (bidder h))
  descending := winners.elim (fun same => same ▸ ok.descending) fun none => by simp [none]
  positions := winners.elim (fun same => same ▸ ok.positions) fun none => by simp [none]
  tracker := by
    rcases tracker with tracker | tracker
    · exact
        { list_ok := tracker ▸ ok.tracker.list_ok
          empty_outside := fun h => tracker ▸ ok.tracker.empty_outside fun m => h (member m)
          empty_listening := fun h => by
            rcases part with part | part
            · exact tracker ▸ ok.tracker.empty_listening (part ▸ h)
            · simp [part] at h }
    · exact ⟨tracker ▸ .reset, fun _ => tracker ▸ rfl, fun _ => tracker ▸ rfl⟩

/-- A change that leaves membership alone. -/
theorem same (ok : s.CoreOk) (membership : t.agreement.membership = s.agreement.membership)
    (part : t.agreement.part = s.agreement.part ∨ t.agreement.part = none)
    (bidder : t.contest.inContest = true → s.contest.inContest = true)
    (winners : t.contest.winners = s.contest.winners ∨ t.contest.winners = [])
    (tracker : t.tracker = s.tracker ∨ t.tracker = Tracker.reset) : t.CoreOk :=
  ok.change (membership ▸ ok.out) membership.trans (fun l => .inl (membership.trans l)) part bidder winners tracker

/-- A change that leaves agreement unit, contest unit and tracker alone. -/
theorem congr (ok : s.CoreOk) (agreement : t.agreement = s.agreement) (contest : t.contest = s.contest)
    (tracker : t.tracker = s.tracker) : t.CoreOk :=
  ok.same (by rw [agreement]) (.inl (by rw [agreement])) (by rw [contest]; exact id) (.inl (by rw [contest]))
    (.inl tracker)

/-- Everything of a round is dropped (R26, R42, R73, R83). -/
theorem dropped (ok : s.CoreOk) (membership : t.agreement.membership = s.agreement.membership)
    (part : t.agreement.part = none) (contest : t.contest = Contest.reset)
    (tracker : t.tracker = s.tracker ∨ t.tracker = Tracker.reset) : t.CoreOk :=
  ok.same membership (.inr part) (by rw [contest]; exact fun h => (by cases h)) (.inr (by rw [contest]; rfl)) tracker

/-- The winner list goes to the tracker of a member, before the digest passes (R39, R48). -/
theorem track (ok : s.CoreOk) (member : s.agreement.membership = .member) (part : s.agreement.part = none) :
    (s.track s.contest.winners).CoreOk := by
  have distinct : (s.contest.winners.map Winner.position).Nodup :=
    (ok.descending.map _ fun _ _ h => h.2)
  refine ⟨?_, ?_, ?_, ?_, ?_, ?_, ⟨?_, ?_, ?_⟩⟩ <;> simp only [State.agreement_track, State.contest_track,
    State.tracker_track]
  · exact ok.out
  · exact ok.part_member
  · exact ok.part_listener
  · exact ok.bidder_member
  · exact ok.descending
  · exact ok.positions
  · exact ok.tracker.list_ok.trackingStep _ _ distinct ok.positions
  · exact fun h => absurd member h
  · simp [part]

/-- The contest phase ends, with the tracking step in a member of a round without a fault. -/
theorem endContests (ok : s.CoreOk) (part : s.agreement.part = none) : s.endContests.CoreOk := by
  unfold State.endContests
  dsimp only
  split
  · rename_i tracks
    exact (ok.track tracks.1 part).congr rfl rfl rfl
  · exact ok.congr rfl rfl rfl

theorem nextContest (ok : s.CoreOk) (part : s.agreement.part = none) : s.nextContest.CoreOk := by
  unfold State.nextContest
  split
  · exact ok.congr rfl rfl rfl
  · exact ok.endContests part

/-- A winner below those before it, at a position of its own, joins the list (R33, R36). -/
theorem winner (ok : s.CoreOk) {w : Winner} (notPhantom : s.isPhantom w = false) (position : w.position < 256)
    (agreement : t.agreement = s.agreement) (bidder : t.contest.inContest = true → s.contest.inContest = true)
    (winners : t.contest.winners = s.contest.winners ++ [w]) (tracker : t.tracker = s.tracker) : t.CoreOk := by
  have kept : State.CoreOk { t with contest := { t.contest with winners := s.contest.winners } } :=
    ok.same (by rw [agreement]) (.inl (by rw [agreement])) bidder (.inl rfl) (.inl tracker)
  have apart : ∀ x ∈ s.contest.winners, w.value < x.value ∧ x.position ≠ w.position := by
    intro x mem
    rw [← Bool.not_eq_true, State.isPhantom_iff] at notPhantom
    push Not at notPhantom
    exact notPhantom.2 x mem
  refine ⟨kept.out, kept.part_member, kept.part_listener, kept.bidder_member, ?_, ?_, ⟨kept.tracker.list_ok,
    kept.tracker.empty_outside, kept.tracker.empty_listening⟩⟩
  · rw [winners, List.pairwise_append]
    exact ⟨ok.descending, List.pairwise_singleton _ _, fun x mem y single => List.mem_singleton.mp single ▸ apart x mem⟩
  · rw [winners]
    intro x mem
    rcases List.mem_append.mp mem with mem | mem
    · exact ok.positions x mem
    · exact List.mem_singleton.mp mem ▸ position

/-- Entry into CONFLICT: the touches are cleared, and no bid of its own is in the contest (R34, R85). -/
theorem enterConflict (ok : s.CoreOk) (part : s.agreement.part = none) (notIn : s.contest.inContest = false) :
    s.enterConflict.CoreOk := by
  constructor
  · simp [State.enterConflict, Agreement.become]
  · simp [State.enterConflict, Agreement.become, part]
  · simp [State.enterConflict, Agreement.become, part]
  · simp [State.enterConflict, notIn]
  · simpa [State.enterConflict] using ok.descending
  · simpa [State.enterConflict] using ok.positions
  · exact ⟨by simpa [State.enterConflict] using TouchListOk.reset, by simp [State.enterConflict, Tracker.reset],
      by simp [State.enterConflict, Tracker.reset]⟩

/-- A listener becomes a member (R78, R80, R84). -/
theorem becomesMember (ok : s.CoreOk) : (s.setMembership .member).CoreOk :=
  ok.change (by simp [Agreement.become]) (fun _ => rfl) (fun _ => .inr rfl) (.inl rfl) id (.inl rfl) (.inl rfl)

/-- Adoption into an empty list (R62). -/
theorem adopt (ok : s.CoreOk) {id : Nat} (empty : s.tracker.touches = []) (range : 1 ≤ id ∧ id ≤ 255) :
    (s.adopt id).CoreOk := by
  have list : TouchListOk { s.tracker with nextId := id } := by
    refine ⟨?_, ?_, ?_, ?_, ?_, range, ?_⟩ <;> simp [empty]
  refine ⟨?_, ?_, ?_, ?_, ?_, ?_, ⟨?_, ?_, ?_⟩⟩ <;> simp only [State.agreement_adopt, State.contest_adopt,
    State.tracker_adopt]
  exacts [ok.out, ok.part_member, ok.part_listener, ok.bidder_member, ok.descending, ok.positions, list,
    fun _ => empty, fun _ => empty]

theorem clearTouches (ok : s.CoreOk) (c : ClearCause) : (s.clearTouches c).CoreOk :=
  ok.same (by simp) (.inl (by simp)) (by simp) (.inl (by simp)) (.inr (by simp))

/-- The first DIGEST_A fall gives the part of the membership (R71). -/
theorem latchDigest (ok : s.CoreOk) (d : BitVec 16) :
    State.CoreOk { s with agreement := s.agreement.latchDigest d } := by
  have parts : s.agreement.decidePart = .member → s.agreement.membership = .member := by
    unfold Agreement.decidePart
    split
    · exact fun _ => ‹_›
    · split <;> simp
    all_goals simp
  have listening : s.agreement.decidePart = .listener ∨ s.agreement.decidePart = .forcing →
      s.agreement.membership = .listen := by
    unfold Agreement.decidePart
    split
    · simp
    · exact fun _ => ‹_›
    all_goals simp
  refine ⟨ok.out, ?_, ?_, ok.bidder_member, ok.descending, ok.positions, ok.tracker.list_ok, ok.tracker.empty_outside, ?_⟩
  all_goals simp only [Agreement.latchDigest, Option.some.injEq]
  · exact parts
  · exact fun h => .inl (listening h)
  · exact fun h => ok.tracker.empty_outside (by simp [listening h])

/-- A bid is a member's (R27). -/
theorem openContest (ok : s.CoreOk) : s.openContest.CoreOk where
  out := ok.out
  part_member := ok.part_member
  part_listener := ok.part_listener
  bidder_member h := by
    simp only [State.openContest, Contest.inContest, State.bidNow, Bool.not_false, Bool.and_true] at h
    by_contra other
    rw [if_neg (show ¬ s.agreement.membership = .member from other)] at h
    cases h
  descending := ok.descending
  positions := ok.positions
  tracker := ⟨ok.tracker.list_ok, ok.tracker.empty_outside, ok.tracker.empty_listening⟩

/-! ## The events of the bus engine -/

theorem electDrive (ok : s.CoreOk) : s.electDrive.CoreOk := by
  unfold State.electDrive
  cases s.bus.phase <;> dsimp only <;> try exact ok.congr rfl rfl rfl
  · exact ok.openContest.congr rfl rfl rfl
  · split
    · exact (ok.latchDigest _).congr rfl rfl rfl
    · exact ok.congr rfl rfl rfl

theorem openSlot (ok : s.CoreOk) : s.openSlot.CoreOk := by
  unfold State.openSlot
  apply electDrive
  exact ok.congr rfl rfl rfl

theorem openWindow (ok : s.CoreOk) : s.openWindow.CoreOk := ok.dropped rfl rfl rfl (.inl rfl)

theorem fall (ok : s.CoreOk) : s.fall.CoreOk := by
  have falls : State.CoreOk { s with bus := s.bus.lineFalls } := ok.congr rfl rfl rfl
  unfold State.fall
  dsimp only
  split
  · exact falls.openWindow
  · apply openSlot
    exact ok.congr rfl rfl rfl
  case h_3 | h_4 | h_5 | h_6 | h_7 | h_8 => exact falls.openSlot
  · exact ok.congr rfl rfl rfl
  all_goals exact falls

theorem closeWindow (ok : s.CoreOk) : s.closeWindow.CoreOk := by
  unfold State.closeWindow State.beginOperation
  dsimp only
  split <;> exact ok.congr (by simp) (by simp) (by simp)

theorem presenceSlotResult (ok : s.CoreOk) (dat : Bool) : (s.presenceSlotResult dat).CoreOk := by
  unfold State.presenceSlotResult State.presenceResult
  dsimp only
  split <;> split <;> exact ok.congr (by simp) (by simp) (by simp)

theorem claimResult (ok : s.CoreOk) (part : s.agreement.part = none) (dat : Bool) : (s.claimResult dat).CoreOk := by
  unfold State.claimResult
  dsimp only
  split
  · exact ok.congr rfl rfl rfl
  · refine endContests ?_ part
    exact ok.same rfl (.inl rfl) (fun h => (by cases h)) (.inl rfl) (.inl rfl)

theorem checkWinner (ok : s.CoreOk) (part : s.agreement.part = none) : s.checkWinner.CoreOk := by
  have position : (winnerOf s.contest.assembly).position < 256 := Nat.mod_lt _ (by decide)
  unfold State.checkWinner
  dsimp only
  split
  · refine endContests ?_ part
    exact ok.same rfl (.inl rfl) id (.inl rfl) (.inl rfl)
  · rename_i notPhantom
    rw [Bool.not_eq_true] at notPhantom
    split
    · rename_i conflict
      have notIn : s.contest.inContest = false := by
        simp only [State.findsConflict, Bool.and_eq_true, Bool.not_eq_true'] at conflict
        exact conflict.2
      have listed : State.CoreOk { s with contest :=
          { s.contest with winners := s.contest.winners ++ [winnerOf s.contest.assembly] } } :=
        ok.winner notPhantom position rfl id rfl rfl
      exact (listed.enterConflict part notIn).nextContest (by simpa [State.enterConflict, Agreement.become] using part)
    · refine nextContest ?_ part
      exact ok.winner notPhantom position rfl id rfl rfl

theorem bidResult (ok : s.CoreOk) (part : s.agreement.part = none) (dat : Bool) : (s.bidResult dat).CoreOk := by
  have readBack : State.CoreOk { s with contest := s.contest.readBack dat s.bus.datDrive } := by
    refine ok.same rfl (.inl rfl) (fun stays => ?_) (.inl rfl) (.inl rfl)
    simp only [Contest.inContest, Contest.readBack, Bool.and_eq_true, Bool.not_eq_true', Bool.or_eq_false_iff] at stays ⊢
    exact ⟨stays.1, stays.2.1⟩
  unfold State.bidResult
  dsimp only
  split
  · exact readBack.congr rfl rfl rfl
  · exact readBack.checkWinner part

theorem recordSlot (ok : s.CoreOk) (passB dat drove : Bool) :
    State.CoreOk { s with agreement := s.agreement.recordSlot passB dat drove } :=
  ok.same rfl (.inl rfl) id (.inl rfl) (.inl rfl)

theorem digestAResult (ok : s.CoreOk) (dat : Bool) : (s.digestAResult dat).CoreOk := by
  unfold State.digestAResult
  dsimp only
  split <;> exact (ok.recordSlot false dat s.bus.datDrive).congr rfl rfl rfl

theorem memberOutcome (ok : s.CoreOk) : s.memberOutcome.CoreOk := by
  unfold State.memberOutcome
  split
  · exact (ok.clearTouches .mismatch).same rfl (.inl rfl) id (.inl rfl) (.inl rfl)
  · exact ok

theorem listenerOutcome (ok : s.CoreOk) (empty : s.tracker.touches = []) : s.listenerOutcome.CoreOk := by
  unfold State.listenerOutcome
  split
  · split
    · rename_i adoptable
      simp only [Agreement.adoptable, Bool.and_eq_true, bne_iff_ne, ne_eq] at adoptable
      refine (ok.adopt empty ⟨Nat.pos_of_ne_zero adoptable.2, ?_⟩).becomesMember
      have := (passValue s.agreement.passA).isLt
      unfold Agreement.readId
      omega
    · refine ok.same ?_ (.inl ?_) id (.inl rfl) (.inl rfl)
      all_goals
        unfold Agreement.waitRound
        dsimp only
        split <;> rfl
  · exact (ok.clearTouches .formation).becomesMember

theorem takeOutcome (ok : s.CoreOk) : s.takeOutcome.CoreOk := by
  unfold State.takeOutcome
  split
  · exact ok.memberOutcome
  · exact ok.listenerOutcome (ok.tracker.empty_listening (.inr ‹_›))
  · exact ok.listenerOutcome (ok.tracker.empty_listening (.inl ‹_›))
  · exact ok
  · exact ok

theorem digestBResult (ok : s.CoreOk) (dat : Bool) : (s.digestBResult dat).CoreOk := by
  unfold State.digestBResult
  dsimp only
  split
  · exact (ok.recordSlot true dat s.bus.datDrive).congr rfl rfl rfl
  · exact (ok.recordSlot true dat s.bus.datDrive).takeOutcome.congr rfl rfl rfl

theorem quietResult (ok : s.CoreOk) (dat : Bool) : (s.quietResult dat).CoreOk := by
  unfold State.quietResult
  split <;> exact ok.congr rfl rfl rfl

/-- The slot's value goes to its owner; before the digest passes no part has been given. -/
theorem slotResult (ok : s.CoreOk) (part : s.bus.phase.beforeDigest = true → s.agreement.part = none) (dat : Bool) :
    (s.slotResult dat).CoreOk := by
  unfold State.slotResult
  split
  · exact ok.quietResult dat
  · exact ok.presenceSlotResult dat
  · rename_i phase
    exact ok.claimResult (part (by rw [phase]; rfl)) dat
  · rename_i phase
    exact ok.bidResult (part (by rw [phase]; rfl)) dat
  · exact ok.digestAResult dat
  · exact ok.digestBResult dat
  all_goals exact ok

theorem completeSlot (ok : s.CoreOk) (part : s.bus.phase.beforeDigest = true → s.agreement.part = none) (dat : Bool) :
    (s.completeSlot dat).CoreOk := by
  have ended : State.CoreOk
      { s with frontEnd := s.frontEnd.endCount, bus := { s.bus with slotTimer := some slotTicks } } :=
    ok.congr rfl rfl rfl
  exact (ended.slotResult part dat).congr rfl rfl rfl

theorem abandonRound (ok : s.CoreOk) : s.abandonRound.CoreOk := ok.dropped rfl rfl rfl (.inl rfl)

theorem detectBreak (ok : s.CoreOk) : s.detectBreak.CoreOk := by
  unfold State.detectBreak
  dsimp only
  split
  · exact ok.dropped (by simp [Agreement.discardItems]) (by simp [Agreement.discardItems]) (by simp) (.inr (by simp))
  · exact ok.dropped rfl rfl rfl (.inl rfl)

theorem endBreak (ok : s.CoreOk) : s.endBreak.CoreOk := by
  have ended : State.CoreOk { s with
      bus := s.bus.enterSettling
      agreement := { s.agreement.discardItems with listenRounds := 0, forcing := false } } :=
    ok.same rfl (.inr rfl) id (.inl rfl) (.inl rfl)
  unfold State.endBreak State.breakEndMembership
  dsimp only
  split
  · exact (ended.clearTouches .brk).becomesMember
  all_goals exact ended

theorem riseInPhase (ok : s.CoreOk) (part : s.bus.phase.beforeDigest = true → s.agreement.part = none) (dat : Bool) :
    (s.riseInPhase dat).CoreOk := by
  unfold State.riseInPhase
  split
  · exact ok.closeWindow
  case h_2 | h_3 | h_4 | h_5 | h_6 | h_7 => exact ok.completeSlot part dat
  · exact ok.endBreak
  · exact ok.congr rfl rfl rfl
  all_goals exact ok

end State.CoreOk

end Sys2Proof.Machine
end

section
/-! SUPPORT. The bus engine after each of its events: its phase, its counts and its drives, and the place it takes in the
surface's shared state. -/

namespace Sys2Proof.Machine

/-! ## The bus engine after each event -/

@[simp] theorem State.bus_openWindow (s : State) :
    s.openWindow.bus =
      { s.bus with
        phase := .window, roundTimer := none, holdTimer := some (windowTicks s.store.record)
        stamp := s.bus.stamp + 1 } := rfl

theorem State.bus_electDrive (s : State) : ∃ d, s.electDrive.bus = { s.bus with datDrive := d } := by
  unfold State.electDrive State.openContest
  cases phase : s.bus.phase <;> dsimp only <;> (try split) <;> exact ⟨_, rfl⟩

theorem State.bus_closeWindow (s : State) :
    s.closeWindow.bus = { s.bus with phase := .gap, holdTimer := none, gapTimer := some gapTicks } := by
  unfold State.closeWindow State.beginOperation
  dsimp only
  split <;> simp

theorem State.bus_abandonRound (s : State) :
    s.abandonRound.bus =
      { s.bus with
        phase := .window, slotIndex := 0, contestCount := 0, bitIndex := 0, slotTimer := none, strobeTimer := none
        lowTicks := max s.bus.lowTicks strobeLimit
        holdTimer := some (windowTicks s.store.record - max s.bus.lowTicks strobeLimit)
        stamp := s.bus.stamp + 1, datDrive := false } := rfl

theorem State.bus_detectBreak (s : State) :
    s.detectBreak.bus =
      { s.bus with
        phase := if s.bus.phase = .breakDrive then .breakDrive else .brk
        driveBreakSeen := decide (s.bus.phase = .breakDrive)
        slotIndex := 0, contestCount := 0, bitIndex := 0, lowTicks := max s.bus.lowTicks breakLimit
        roundTimer := none, holdTimer := none, gapTimer := none, slotTimer := none, strobeTimer := none
        datDrive := false } := by
  unfold State.detectBreak
  dsimp only
  split
  · simp only [State.bus_clearTouches]
    rfl
  · rfl

@[simp] theorem State.bus_breakEndMembership (s : State) : s.breakEndMembership.bus = s.bus := by
  unfold State.breakEndMembership
  dsimp only
  split <;> simp

@[simp] theorem State.bus_endBreak (s : State) : s.endBreak.bus = s.bus.enterSettling := by
  simp [State.endBreak]

@[simp] theorem State.bus_presenceResult (a : Nat) (dat : Bool) (s : State) : (s.presenceResult a dat).bus = s.bus := by
  unfold State.presenceResult
  split <;> simp

theorem State.bus_endContests (s : State) : s.endContests.bus = { s.bus with phase := .digestA, bitIndex := 0 } := by
  unfold State.endContests
  dsimp only
  split <;> simp

theorem State.bus_nextContest (s : State) :
    s.nextContest.bus =
      { s.bus with phase := if s.bus.contestCount < 4 then .claim else .digestA, bitIndex := 0 } := by
  unfold State.nextContest
  split
  · rfl
  · rw [State.bus_endContests]

@[simp] theorem State.bus_enterConflict (s : State) : s.enterConflict.bus = { s.bus with pendingBreak := false } := by
  simp [State.enterConflict]

@[simp] theorem State.bus_takeOutcome (s : State) : s.takeOutcome.bus = s.bus := by
  unfold State.takeOutcome State.memberOutcome State.listenerOutcome
  split <;> (try split) <;> (try split) <;> simp

@[simp] theorem State.contest_takeOutcome (s : State) : s.takeOutcome.contest = s.contest := by
  unfold State.takeOutcome State.memberOutcome State.listenerOutcome
  split <;> (try split) <;> (try split) <;> simp

@[simp] theorem State.contest_endContests (s : State) : s.endContests.contest = s.contest := by
  unfold State.endContests
  dsimp only
  split <;> simp

@[simp] theorem State.agreement_endContests (s : State) : s.endContests.agreement = s.agreement := by
  unfold State.endContests
  dsimp only
  split <;> simp

@[simp] theorem State.contest_nextContest (s : State) : s.nextContest.contest = s.contest := by
  unfold State.nextContest
  split <;> simp

@[simp] theorem State.agreement_nextContest (s : State) : s.nextContest.agreement = s.agreement := by
  unfold State.nextContest
  split <;> simp

@[simp] theorem State.contest_breakEndMembership (s : State) : s.breakEndMembership.contest = s.contest := by
  unfold State.breakEndMembership
  dsimp only
  split <;> simp

/-- IDLE is entered, or left at once for the pending break, with every count at 0. -/
theorem Bus.enterIdle_phase (r : ConfigRecord) (b : Bus) :
    ((b.enterIdle r).phase = .idle ∨ (b.enterIdle r).phase = .breakDrive) ∧ (b.enterIdle r).contestCount = 0 := by
  cases pending : b.pendingBreak with
  | false => simp [Bus.enterIdle_of_not_pending r b pending]
  | true =>
    refine ⟨.inr (b.enterIdle_of_pending r pending).1, ?_⟩
    cases line : b.lineLow <;>
      simp [Bus.enterIdle, Bus.clearIndices, Bus.beginBreakDrive, Bus.lineFalls, pending, line]

/-! ## The place of the bus engine -/

namespace State.Placed

variable {s t : State}

theorem winners_le (placed : s.Placed) : s.contest.winners.length ≤ 4 := by
  have room := placed.room
  unfold contestRoom at room
  split at room <;> omega

/-- The room in a phase that is known. -/
theorem room_in (placed : s.Placed) {p : Phase} (phase : s.bus.phase = p) :
    contestRoom p s.bus.contestCount s.contest.winners.length := phase ▸ placed.room

/-- Before the digest passes there is no part. -/
theorem part_in (placed : s.Placed) {p : Phase} (phase : s.bus.phase = p) (before : p.beforeDigest = true) :
    s.agreement.part = none := placed.part_discarded (phase ▸ before)

/-- A place in a phase that is known. -/
theorem inPhase {p : Phase} (phase : t.bus.phase = p) (on : p ≠ .off) (part : p.beforeDigest = true → t.agreement.part = none)
    (room : contestRoom p t.bus.contestCount t.contest.winners.length) : t.Placed := by
  subst phase
  exact ⟨on, part, room⟩

/-- The place is told by phase, contest count, part and winner list. -/
theorem same (placed : s.Placed) (phase : t.bus.phase = s.bus.phase) (count : t.bus.contestCount = s.bus.contestCount)
    (part : s.bus.phase.beforeDigest = true → t.agreement.part = s.agreement.part)
    (winners : t.contest.winners = s.contest.winners) : t.Placed :=
  inPhase phase placed.on (fun before => (part before).trans (placed.part_discarded before))
    (by rw [count, winners]; exact placed.room)

/-- Between rounds any list of at most four winners has room. -/
theorem between (phase : t.bus.phase = .idle ∨ t.bus.phase = .settling ∨ t.bus.phase = .brk ∨ t.bus.phase = .breakDrive)
    (count : t.bus.contestCount = 0) (winners : t.contest.winners.length ≤ 4) : t.Placed := by
  rcases phase with phase | phase | phase | phase <;>
    exact inPhase phase (by decide) (fun before => (by cases before)) ⟨count, winners⟩

theorem enterIdle (r : ConfigRecord) (b : Bus) (bus : t.bus = b.enterIdle r) (winners : t.contest.winners.length ≤ 4) :
    t.Placed := by
  obtain ⟨phase, count⟩ := b.enterIdle_phase r
  exact between (bus ▸ phase.elim .inl fun drive => .inr (.inr (.inr drive))) (bus ▸ count) winners

/-! ### Falls -/

theorem electDrive (placed : s.Placed) : s.electDrive.Placed := by
  obtain ⟨d, bus⟩ := s.bus_electDrive
  refine placed.same (by rw [bus]) (by rw [bus]) (fun before => ?_) ?_
  · unfold State.electDrive
    cases phase : s.bus.phase <;> simp [phase, Phase.beforeDigest] at before ⊢
    rfl
  · unfold State.electDrive
    cases s.bus.phase <;> dsimp only <;> (try split) <;> rfl

theorem openSlot (placed : s.Placed) : s.openSlot.Placed := by
  unfold State.openSlot
  apply electDrive
  exact placed.same rfl rfl (fun _ => rfl) rfl

theorem fall (placed : s.Placed) : s.fall.Placed := by
  have falls : State.Placed { s with bus := s.bus.lineFalls } := placed.same rfl rfl (fun _ => rfl) rfl
  unfold State.fall
  dsimp only
  split
  · rename_i idle
    obtain ⟨count, -⟩ := falls.room_in idle
    exact inPhase (p := .window) rfl (by decide) (fun _ => rfl) ⟨count, rfl⟩
  · rename_i gap
    have room := falls.room_in gap
    exact openSlot (inPhase (p := .quiet) rfl (by decide) (fun _ => falls.part_in gap rfl) room)
  case h_3 | h_4 | h_5 | h_6 | h_7 | h_8 => exact falls.openSlot
  all_goals exact falls.same rfl rfl (fun _ => rfl) rfl

/-! ### Rises -/

theorem closeWindow (placed : s.Placed) (window : s.bus.phase = .window) : s.closeWindow.Placed := by
  have bus := s.bus_closeWindow
  have contest : s.closeWindow.contest = s.contest := by
    unfold State.closeWindow State.beginOperation
    dsimp only
    split <;> simp
  have agreement : s.closeWindow.agreement = s.agreement := by
    unfold State.closeWindow State.beginOperation
    dsimp only
    split <;> simp
  have room := placed.room_in window
  refine inPhase (p := .gap) (by rw [bus]) (by decide) (fun _ => ?_) ?_
  · rw [agreement]
    exact placed.part_in window rfl
  · rw [bus, contest]
    exact room

theorem quietResult (placed : s.Placed) (quiet : s.bus.phase = .quiet) (dat : Bool) : (s.quietResult dat).Placed := by
  have room := placed.room_in quiet
  unfold State.quietResult
  split
  · exact enterIdle _ _ rfl placed.winners_le
  · exact inPhase (p := .presence) rfl (by decide) (fun _ => placed.part_in quiet rfl) room

theorem presenceSlotResult (placed : s.Placed) (presence : s.bus.phase = .presence) (dat : Bool) :
    (s.presenceSlotResult dat).Placed := by
  have part := placed.part_in presence rfl
  obtain ⟨count, winners⟩ := placed.room_in presence
  have contest (a : Nat) : (s.presenceResult a dat).contest = s.contest := by
    unfold State.presenceResult
    split <;> simp
  have agreement (a : Nat) : (s.presenceResult a dat).agreement = s.agreement := by
    unfold State.presenceResult
    split <;> simp
  unfold State.presenceSlotResult
  dsimp only
  split
  · exact placed.same (by simp) (by simp) (fun _ => by rw [agreement]) (by rw [contest])
  · refine inPhase (p := .claim) rfl (by decide) (fun _ => ?_) ?_
    · rw [agreement]
      exact part
    · rw [contest]
      simp only [contestRoom, State.bus_presenceResult]
      omega

/-- The digest passes follow where the winners are as many as the contest count allows. -/
theorem endContests (count : s.bus.contestCount ≤ 4) (winners : s.contest.winners.length ≤ s.bus.contestCount) :
    s.endContests.Placed := by
  refine inPhase (p := .digestA) (by rw [State.bus_endContests]) (by decide) (fun before => (by cases before)) ?_
  rw [State.bus_endContests, State.contest_endContests]
  exact ⟨count, winners⟩

theorem nextContest (part : s.agreement.part = none) (count : s.bus.contestCount ≤ 4)
    (winners : s.contest.winners.length ≤ s.bus.contestCount) : s.nextContest.Placed := by
  unfold State.nextContest
  split
  · exact inPhase (p := .claim) rfl (by decide) (fun _ => part) ⟨‹_›, winners⟩
  · exact endContests count winners

theorem claimResult (placed : s.Placed) (claim : s.bus.phase = .claim) (dat : Bool) : (s.claimResult dat).Placed := by
  obtain ⟨count, winners⟩ := placed.room_in claim
  unfold State.claimResult
  dsimp only
  split
  · exact inPhase (p := .bid) rfl (by decide) (fun _ => placed.part_in claim rfl) ⟨count, Nat.lt_succ_of_le winners⟩
  · exact endContests count (Nat.le_succ_of_le winners)

theorem checkWinner (part : s.agreement.part = none) (count : s.bus.contestCount ≤ 4)
    (winners : s.contest.winners.length < s.bus.contestCount) : s.checkWinner.Placed := by
  unfold State.checkWinner
  dsimp only
  split
  · exact endContests count (Nat.le_of_lt winners)
  · split
    · refine nextContest ?_ ?_ ?_
      · simpa [State.enterConflict, Agreement.become] using part
      · simpa using count
      · simp only [State.enterConflict, State.contest_setMembership, State.contest_clearTouches, List.length_append,
          List.length_singleton, State.bus_setMembership, State.bus_clearTouches]
        exact winners
    · refine nextContest part count ?_
      simpa [Contest.accept] using winners

theorem bidResult (placed : s.Placed) (bid : s.bus.phase = .bid) (dat : Bool) : (s.bidResult dat).Placed := by
  have part := placed.part_in bid rfl
  obtain ⟨count, winners⟩ := placed.room_in bid
  unfold State.bidResult
  dsimp only
  split
  · exact placed.same rfl rfl (fun _ => rfl) rfl
  · exact checkWinner part count winners

theorem digestAResult (placed : s.Placed) (digestA : s.bus.phase = .digestA) (dat : Bool) :
    (s.digestAResult dat).Placed := by
  have room := placed.room_in digestA
  unfold State.digestAResult
  dsimp only
  split
  · exact placed.same rfl rfl (fun _ => rfl) rfl
  · exact inPhase (p := .digestB) rfl (by decide) (fun before => (by cases before)) room

theorem digestBResult (placed : s.Placed) (dat : Bool) : (s.digestBResult dat).Placed := by
  unfold State.digestBResult
  dsimp only
  split
  · exact placed.same rfl rfl (fun _ => rfl) rfl
  · refine enterIdle _ _ rfl ?_
    simpa using placed.winners_le

theorem slotResult (placed : s.Placed) (dat : Bool) : (s.slotResult dat).Placed := by
  unfold State.slotResult
  split
  · exact placed.quietResult ‹_› dat
  · exact placed.presenceSlotResult ‹_› dat
  · exact placed.claimResult ‹_› dat
  · exact placed.bidResult ‹_› dat
  · exact placed.digestAResult ‹_› dat
  · exact placed.digestBResult dat
  all_goals exact placed

theorem completeSlot (placed : s.Placed) (dat : Bool) : (s.completeSlot dat).Placed := by
  have ended : State.Placed
      { s with frontEnd := s.frontEnd.endCount, bus := { s.bus with slotTimer := some slotTicks } } :=
    placed.same rfl rfl (fun _ => rfl) rfl
  exact (ended.slotResult dat).same rfl rfl (fun _ => rfl) rfl

theorem abandonRound (s : State) : s.abandonRound.Placed :=
  inPhase (p := .window) rfl (by decide) (fun _ => rfl) ⟨rfl, rfl⟩

theorem detectBreak (s : State) : s.detectBreak.Placed := by
  refine between ?_ ?_ ?_
  · rw [State.bus_detectBreak]
    dsimp only
    split <;> simp
  · rw [State.bus_detectBreak]
  · have contest : s.detectBreak.contest = Contest.reset := by
      unfold State.detectBreak
      dsimp only
      split <;> simp
    rw [contest]
    decide

theorem endBreak (winners : s.contest.winners.length ≤ 4) : s.endBreak.Placed := by
  refine between ?_ ?_ ?_
  · rw [State.bus_endBreak]
    exact .inr (.inl rfl)
  · rw [State.bus_endBreak]
    rfl
  · simpa [State.endBreak] using winners

theorem riseInPhase (placed : s.Placed) (dat : Bool) : (s.riseInPhase dat).Placed := by
  unfold State.riseInPhase
  split
  · exact placed.closeWindow ‹_›
  case h_2 | h_3 | h_4 | h_5 | h_6 | h_7 => exact placed.completeSlot dat
  · exact endBreak placed.winners_le
  · exact placed.same rfl rfl (fun _ => rfl) rfl
  all_goals exact placed

end State.Placed

/-! ## The blocks and the place, kept together -/

/-- In service: the blocks' rules and the place of the bus engine. -/
structure State.InService (s : State) : Prop where
  core : s.CoreOk
  placed : s.Placed

/-- The events of the bus engine keep a station in service. -/
theorem BusRun.inService {s t : State} (run : BusRun s t) (ok : s.InService) : t.InService := by
  obtain ⟨core, placed⟩ := ok
  induction run with
  | timers b same =>
    exact ⟨core.congr rfl rfl rfl, placed.same same.phase same.contestCount (fun _ => rfl) rfl⟩
  | fall => exact ⟨core.fall, placed.fall⟩
  | abandon => exact ⟨core.abandonRound, .abandonRound _⟩
  | detect => exact ⟨core.detectBreak, .detectBreak _⟩
  | stuck => exact ⟨core.congr rfl rfl rfl, placed.same rfl rfl (fun _ => rfl) rfl⟩
  | @rise s dat =>
    have rises : State.CoreOk { s with bus := s.bus.lineRises } := core.congr rfl rfl rfl
    have risesPlaced : State.Placed { s with bus := s.bus.lineRises } := placed.same rfl rfl (fun _ => rfl) rfl
    exact ⟨rises.riseInPhase placed.part_discarded dat, risesPlaced.riseInPhase dat⟩
  | driveHeld drive =>
    exact ⟨core.congr rfl rfl rfl, .between (.inr (.inr (.inl rfl))) (placed.room_in drive).1 placed.winners_le⟩
  | @driveEnds s =>
    have released : State.CoreOk { s with bus := Bus.lineRises { s.bus with breakTimer := none } } :=
      core.congr rfl rfl rfl
    exact ⟨released.endBreak, .endBreak placed.winners_le⟩
  | settled => exact ⟨core.congr rfl rfl rfl, .enterIdle _ _ rfl placed.winners_le⟩
  | operation => exact ⟨core.congr (by simp) (by simp) (by simp), placed.same (by simp) (by simp) (by simp) (by simp)⟩
  | trans _ _ first rest =>
    obtain ⟨core, placed⟩ := first core placed
    exact rest core placed

end Sys2Proof.Machine
end

section
/-! SUPPORT. The surface's shared state, in CONFIG and in service, kept by every effect of a command. -/

namespace Sys2Proof.Machine

/-- In CONFIG the surface's state is that after a reset. -/
theorem surfaceInv_of_config {s : State} (config : s.agreement.membership = .config) (off : s.bus.phase = .off)
    (count : s.bus.contestCount = 0) (unlocked : s.store.locked = false) (records : s.queue.records = [])
    (lost : s.queue.lost = 0) (tracker : s.tracker = Tracker.reset) (part : s.agreement.part = none)
    (contest : s.contest = Contest.reset) (inFlight : s.processor.inFlight = none) (counting : s.frontEnd.counting = false)
    (mode : s.indicator.mode = .off) (dark : s.indicator.phase = .dark) : SurfaceInv s where
  config :=
    { off_iff := iff_of_true config off
      locked_iff := iff_of_false (by simp [unlocked]) (not_not_intro config)
      queue_empty := fun _ => ⟨records, lost⟩
      tracker_reset := fun _ => tracker
      nothing_in_flight := fun _ => inFlight
      not_counting := fun _ => counting
      lamp_off := fun _ => ⟨mode, dark⟩
      record_valid := fun locked => by simp [unlocked] at locked }
  role := ⟨fun _ => part, by simp [part], by simp [part], by simp [contest, Contest.reset, Contest.inContest]⟩
  winner := ⟨by simp [contest, Contest.reset], by simp [contest, Contest.reset],
    by rw [off, count, contest]; exact ⟨rfl, rfl⟩⟩
  tracker := ⟨tracker ▸ .reset, fun _ => by rw [tracker]; rfl, fun _ => by rw [tracker]; rfl⟩

theorem State.beginReset_surfaceInv (s : State) : SurfaceInv s.beginReset :=
  surfaceInv_of_config rfl rfl rfl rfl rfl rfl rfl rfl rfl rfl rfl rfl rfl

/-- A record passes START's checks exactly where no field of it fails (R137, R138). -/
theorem firstFailingField_eq_none_iff (r : ConfigRecord) : firstFailingField r = none ↔ ∀ k, ¬ FieldFails r k := by
  rw [firstFailingField, Option.map_eq_none_iff, List.find?_eq_none]
  constructor
  · exact fun passes k fails => passes _ ((mem_fieldChecks_iff r k).mpr fails) rfl
  · rintro passes ⟨k, b⟩ mem fails
    obtain rfl : b = true := fails
    exact passes k ((mem_fieldChecks_iff r k).mp mem)

namespace SurfaceInv

variable {s t : State}

theorem inService (inv : SurfaceInv s) (out : s.agreement.membership ≠ .config) : s.InService :=
  ⟨inv.core out, inv.placed out⟩

/-- In service a station has a locked record that passed START's checks. -/
theorem keeps (inv : SurfaceInv s) (out : s.agreement.membership ≠ .config) (service : t.InService)
    (store : t.store = s.store) : SurfaceInv t := by
  have locked : s.store.locked = true := inv.config.locked_iff.mpr out
  exact surfaceInv_of_service service.core service.placed (by rw [store, locked])
    (by rw [store]; exact inv.config.record_valid locked)

/-- What keeps the blocks of the surface and the record keeps the surface's state, where in CONFIG it keeps the rest too. -/
theorem same (inv : SurfaceInv s) (agreement : t.agreement = s.agreement) (contest : t.contest = s.contest)
    (tracker : t.tracker = s.tracker) (phase : t.bus.phase = s.bus.phase) (count : t.bus.contestCount = s.bus.contestCount)
    (locked : t.store.locked = s.store.locked)
    (record : s.store.locked = true → t.store.record = s.store.record)
    (config : s.agreement.membership = .config → (t.queue.records = [] ∧ t.queue.lost = 0) ∧ t.processor.inFlight = none ∧
      t.frontEnd.counting = false ∧ t.indicator.mode = .off ∧ t.indicator.phase = .dark) : SurfaceInv t where
  config :=
    { off_iff := by rw [agreement, phase]; exact inv.config.off_iff
      locked_iff := by rw [agreement, locked]; exact inv.config.locked_iff
      queue_empty := by rw [agreement]; exact fun h => (config h).1
      tracker_reset := by rw [agreement, tracker]; exact inv.config.tracker_reset
      nothing_in_flight := by rw [agreement]; exact fun h => (config h).2.1
      not_counting := by rw [agreement]; exact fun h => (config h).2.2.1
      lamp_off := by rw [agreement]; exact fun h => (config h).2.2.2
      record_valid := fun h => by
        rw [locked] at h
        rw [record h]
        exact inv.config.record_valid h }
  role := by
    obtain ⟨discarded, member, listener, bidder⟩ := inv.role
    refine ⟨?_, ?_, ?_, ?_⟩ <;> rw [agreement]
    · rw [phase]
      exact discarded
    · exact member
    · exact listener
    · rw [contest]
      exact bidder
  winner := by
    obtain ⟨descending, positions, room⟩ := inv.winner
    constructor <;> rw [contest]
    · exact descending
    · exact positions
    · rw [phase, count]
      exact room
  tracker := by
    obtain ⟨list, outside, listening⟩ := inv.tracker
    constructor <;> rw [tracker]
    · exact list
    · rw [agreement]
      exact outside
    · rw [agreement]
      exact listening

/-- In CONFIG nothing is queued, in flight or counted, and the lamp is off. -/
theorem quiet (inv : SurfaceInv s) (config : s.agreement.membership = .config) :
    (s.queue.records = [] ∧ s.queue.lost = 0) ∧ s.processor.inFlight = none ∧ s.frontEnd.counting = false ∧
      s.indicator.mode = .off ∧ s.indicator.phase = .dark :=
  ⟨inv.config.queue_empty config, inv.config.nothing_in_flight config, inv.config.not_counting config,
    inv.config.lamp_off config⟩

theorem busRun (inv : SurfaceInv s) (run : BusRun s t) : SurfaceInv t := by
  by_cases config : s.agreement.membership = .config
  · obtain ⟨b, rfl, same⟩ :=
      run.of_off (inv.config.off_iff.mp config) (inv.config.nothing_in_flight config)
    exact inv.same rfl rfl rfl same.phase same.contestCount rfl (fun _ => rfl) inv.quiet
  · exact inv.keeps config (run.inService (inv.inService config)) run.moves.store_eq

/-- In OFF there is no winner. -/
theorem winners_of_config (inv : SurfaceInv s) (config : s.agreement.membership = .config) : s.contest.winners = [] := by
  have room := inv.winner.room
  rw [inv.config.off_iff.mp config] at room
  exact List.length_eq_zero_iff.mp room.2

/-- START puts the blocks into service (R140). -/
theorem starts (inv : SurfaceInv s) (p : Port) (config : s.agreement.membership = .config)
    (valid : firstFailingField s.store.record = none) : SurfaceInv (State.startEffects { s with port := p }) := by
  have winners := inv.winners_of_config config
  have notIn : ¬ s.contest.inContest = true := fun isIn => by
    rw [inv.role.bidder_member isIn] at config
    cases config
  have empty : s.tracker = Tracker.reset := inv.config.tracker_reset config
  refine surfaceInv_of_service ⟨?_, ?_, ?_, ?_, ?_, ?_, ⟨?_, ?_, ?_⟩⟩ (.between ?_ ?_ ?_) ?_ ?_ <;>
    simp only [State.startEffects, State.agreement_setMode, State.agreement_setMembership, State.contest_setMode,
      State.contest_setMembership, State.tracker_setMode, State.tracker_setMembership, State.bus_setMode,
      State.bus_setMembership, State.store_setMode, State.store_setMembership]
  · simp [Agreement.become]
  · simp [Agreement.become, Agreement.discardItems]
  · simp [Agreement.become, Agreement.discardItems]
  · exact fun isIn => absurd isIn notIn
  · simp [winners]
  · simp [winners]
  · exact empty ▸ .reset
  · simp [empty, Tracker.reset]
  · simp [empty, Tracker.reset]
  · exact .inr (.inl rfl)
  · rfl
  · simp [winners]
  · exact (firstFailingField_eq_none_iff _).mp valid

end SurfaceInv

/-- A lamp event comes in a phase other than DARK. -/
theorem LampEvent.not_dark {r : ConfigRecord} {i j : Indicator} (event : LampEvent r i j) : i.phase ≠ .dark := by
  cases event with
  | preClearEnds phase | postClearEnds phase | minPumpExpires phase | pumpFalls phase | pumpRises phase =>
    rw [phase]
    decide

/-- The end of a transaction leaves an empty queue empty. -/
theorem State.endRead_of_empty (s : State) (records : s.queue.records = []) (lost : s.queue.lost = 0) :
    s.endRead.records = [] ∧ s.endRead.lost = 0 := by
  unfold State.endRead EventQueue.removeHead
  dsimp only
  rw [if_pos lost]
  split <;> simp [records, lost]

theorem Effect.surfaceInv {c : Instr} {s t : State} (effect : Effect c s t) (inv : SurfaceInv s) : SurfaceInv t := by
  cases effect with
  | reset => exact s.beginReset_surfaceInv
  | bus run => exact inv.busRun run
  | lamp event =>
    refine inv.same rfl rfl rfl rfl rfl rfl (fun _ => rfl) fun config => absurd ?_ event.not_dark
    exact (inv.config.lamp_off config).2
  | counts n k counting =>
    refine inv.same rfl rfl rfl rfl rfl rfl (fun _ => rfl) fun config => ?_
    simp [inv.config.not_counting config] at counting
  | port => exact inv.same rfl rfl rfl rfl rfl rfl (fun _ => rfl) inv.quiet
  | endsRead =>
    refine inv.same rfl rfl rfl rfl rfl rfl (fun _ => rfl) fun config => ?_
    obtain ⟨⟨records, lost⟩, rest⟩ := inv.quiet config
    exact ⟨s.endRead_of_empty records lost, rest⟩
  | writes p r config =>
    refine inv.same rfl rfl rfl rfl rfl rfl (fun locked => ?_) inv.quiet
    exact absurd config (inv.config.locked_iff.mp locked)
  | starts p config valid => exact inv.starts p config valid
  | recalibrates p mask out =>
    exact inv.same rfl rfl rfl rfl rfl rfl (fun _ => rfl) fun config => absurd config out
  | drives p idle =>
    have out : s.agreement.membership ≠ .config := fun config => by
      rw [inv.config.off_iff.mp config] at idle
      cases idle
    obtain ⟨core, placed⟩ := inv.inService out
    refine inv.keeps out ⟨core.congr rfl rfl rfl, .between (.inr (.inr (.inr rfl))) ?_ placed.winners_le⟩ rfl
    cases line : s.bus.lineLow <;> simp [Bus.beginBreakDrive, Bus.lineFalls, line, (placed.room_in idle).1]
  | pends => exact inv.same rfl rfl rfl rfl rfl rfl (fun _ => rfl) inv.quiet
  | sets p m out =>
    refine inv.same ?_ ?_ ?_ ?_ ?_ ?_ ?_ fun config => absurd config out
    all_goals simp

end Sys2Proof.Machine
end

section
/-! CLAIMS. The surface's shared state: what every step keeps of it. -/

namespace Sys2Proof.Proofs

open Sys2Proof Sys2Proof.Machine

/-- Settles O55: in CONFIG the bus engine can only move its line, and in service every effect keeps the blocks' rules and the
place of the bus engine. -/
theorem everyStepKeepsTheSurfaceState : Obligations.EveryStepKeepsTheSurfaceState := by
  unfold Obligations.EveryStepKeepsTheSurfaceState
  intro s t
  refine step_leads (fun s cs n inv => ?_) (fun s inv => ?_) fun _ _ effect inv => effect.surfaceInv inv
  · exact inv.same rfl rfl rfl rfl rfl rfl (fun _ => rfl) inv.quiet
  · exact inv.same rfl rfl rfl rfl rfl rfl (fun _ => rfl) inv.quiet

end Sys2Proof.Proofs
end

section
/-! SUPPORT. The drives of the two bus lines, event by event (R1, R2, R24). -/

namespace Sys2Proof.Machine

/-! ## The drive of SYNC -/

/-- SYNC is driven by a strobe where a round is in progress or a break is driven, by the hold in WINDOW, and by the commanded
break in BREAK_DRIVE. -/
structure Bus.SyncOk (b : Bus) : Prop where
  strobe : b.phase = .off ∨ b.phase = .settling ∨ b.phase = .idle ∨ b.phase = .brk → b.strobeTimer = none
  hold : b.phase ≠ .window → b.holdTimer = none
  drive : b.phase ≠ .breakDrive → b.breakTimer = none

theorem State.holdsSync_eq_false_iff (s : State) :
    s.holdsSync = false ↔ s.bus.strobeTimer = none ∧ s.bus.holdTimer = none ∧ s.bus.breakTimer = none := by
  simp [State.holdsSync, and_assoc]

theorem syncInv_iff (s : State) : SyncInv s ↔ s.bus.SyncOk := by
  constructor
  · rintro ⟨released, hold, drive⟩
    refine ⟨fun phase => (s.holdsSync_eq_false_iff.mp (released phase)).1, fun phase => ?_, fun phase => ?_⟩
    · exact Option.not_isSome_iff_eq_none.mp fun some => phase (hold some)
    · exact Option.not_isSome_iff_eq_none.mp fun some => phase (drive some)
  · rintro ⟨strobe, hold, drive⟩
    refine ⟨fun phase => s.holdsSync_eq_false_iff.mpr ⟨strobe phase, hold ?_, drive ?_⟩, fun some => ?_, fun some => ?_⟩
    · rcases phase with h | h | h | h <;> simp [h]
    · rcases phase with h | h | h | h <;> simp [h]
    · by_contra phase
      simp [hold phase] at some
    · by_contra phase
      simp [drive phase] at some

namespace Bus.SyncOk

variable {b c : Bus}

/-- Timers that are kept or stopped in the same phase. -/
theorem stopped (ok : b.SyncOk) (phase : c.phase = b.phase)
    (strobe : c.strobeTimer = b.strobeTimer ∨ c.strobeTimer = none)
    (hold : c.holdTimer = b.holdTimer ∨ c.holdTimer = none)
    (drive : c.breakTimer = b.breakTimer ∨ c.breakTimer = none) : c.SyncOk where
  strobe p := strobe.elim (fun same => same.trans (ok.strobe (phase ▸ p))) id
  hold p := hold.elim (fun same => same.trans (ok.hold (phase ▸ p))) id
  drive p := drive.elim (fun same => same.trans (ok.drive (phase ▸ p))) id

theorem same (ok : b.SyncOk) (phase : c.phase = b.phase) (strobe : c.strobeTimer = b.strobeTimer)
    (hold : c.holdTimer = b.holdTimer) (drive : c.breakTimer = b.breakTimer) : c.SyncOk :=
  ok.stopped phase (.inl strobe) (.inl hold) (.inl drive)

/-- With every drive of SYNC stopped any phase will do. -/
theorem released (strobe : c.strobeTimer = none) (hold : c.holdTimer = none) (drive : c.breakTimer = none) : c.SyncOk :=
  ⟨fun _ => strobe, fun _ => hold, fun _ => drive⟩

/-- In a round only the strobe may run. -/
theorem inRound (phase : c.phase = .gap ∨ c.phase.isSlot = true) (hold : c.holdTimer = none) (drive : c.breakTimer = none) :
    c.SyncOk := by
  refine ⟨fun p => ?_, fun _ => hold, fun _ => drive⟩
  rcases p with h | h | h | h <;> simp [h, Phase.isSlot] at phase

/-- In a slot neither the window hold nor the commanded break runs. -/
theorem of_isSlot (ok : b.SyncOk) (slot : b.phase.isSlot = true) : b.holdTimer = none ∧ b.breakTimer = none := by
  refine ⟨ok.hold fun h => ?_, ok.drive fun h => ?_⟩ <;> simp [h, Phase.isSlot] at slot

theorem enterSettling (b : Bus) : b.enterSettling.SyncOk := released rfl rfl rfl

theorem beginBreakDrive (hold : b.holdTimer = none) : b.beginBreakDrive.SyncOk := by
  cases line : b.lineLow <;>
    exact ⟨by simp [Bus.beginBreakDrive], by simp [Bus.beginBreakDrive, Bus.lineFalls, line, hold],
      by simp [Bus.beginBreakDrive]⟩

theorem enterIdle (r : ConfigRecord) (hold : b.holdTimer = none) (drive : b.breakTimer = none) :
    (b.enterIdle r).SyncOk := by
  cases pending : b.pendingBreak with
  | false =>
    rw [Bus.enterIdle_of_not_pending r b pending]
    exact released rfl hold drive
  | true =>
    unfold Bus.enterIdle
    dsimp only
    rw [if_pos (by exact pending)]
    exact beginBreakDrive hold

end Bus.SyncOk

/-! ### A slot's end -/

/-- What a slot's result makes of the bus engine: the next slot, or the end of the round. -/
inductive Bus.SlotNext (r : ConfigRecord) (b : Bus) : Bus → Prop
  | slot {c : Bus} (phase : c.phase.isSlot = true) (hold : c.holdTimer = b.holdTimer) (drive : c.breakTimer = b.breakTimer) :
      Bus.SlotNext r b c
  | ends {c : Bus} (hold : c.holdTimer = b.holdTimer) (drive : c.breakTimer = b.breakTimer) :
      Bus.SlotNext r b (c.enterIdle r)

namespace State

@[simp] theorem store_takeOutcome (s : State) : s.takeOutcome.store = s.store := by simp

theorem endContests_next (r : ConfigRecord) {b : Bus} {s : State} (bus : s.bus = b) : b.SlotNext r s.endContests.bus := by
  rw [bus_endContests, bus]
  exact .slot rfl rfl rfl

theorem nextContest_next (r : ConfigRecord) {b : Bus} {s : State} (bus : s.bus = b) : b.SlotNext r s.nextContest.bus := by
  rw [bus_nextContest, bus]
  refine .slot ?_ rfl rfl
  dsimp only
  split <;> rfl

theorem checkWinner_next (r : ConfigRecord) {b : Bus} {s : State} (bus : s.bus = b) : b.SlotNext r s.checkWinner.bus := by
  subst bus
  unfold checkWinner
  dsimp only
  split
  · exact endContests_next r rfl
  · split
    · rw [bus_nextContest, bus_enterConflict]
      refine .slot ?_ rfl rfl
      dsimp only
      split <;> rfl
    · exact nextContest_next r rfl

theorem slotResult_next (s : State) (dat : Bool) (slot : s.bus.phase.isSlot = true) :
    s.bus.SlotNext s.store.record (s.slotResult dat).bus := by
  unfold slotResult
  split
  · unfold quietResult
    split
    · exact .ends rfl rfl
    · exact .slot rfl rfl rfl
  · unfold presenceSlotResult
    dsimp only
    split
    · rw [bus_presenceResult]
      exact .slot slot rfl rfl
    · rw [bus_presenceResult]
      exact .slot rfl rfl rfl
  · unfold claimResult
    dsimp only
    split
    · exact .slot rfl rfl rfl
    · rw [bus_endContests]
      exact .slot rfl rfl rfl
  · unfold bidResult
    dsimp only
    split
    · exact .slot slot rfl rfl
    · exact checkWinner_next _ rfl
  · unfold digestAResult
    dsimp only
    split
    · exact .slot slot rfl rfl
    · exact .slot rfl rfl rfl
  · unfold digestBResult
    dsimp only
    split
    · exact .slot slot rfl rfl
    · rw [bus_takeOutcome, store_takeOutcome]
      exact .ends rfl rfl
  all_goals exact .slot slot rfl rfl

end State

theorem Bus.SlotNext.syncOk {r : ConfigRecord} {b c : Bus} (next : b.SlotNext r c) (hold : b.holdTimer = none)
    (drive : b.breakTimer = none) : c.SyncOk := by
  cases next with
  | slot phase sameHold sameDrive => exact .inRound (.inr phase) (sameHold.trans hold) (sameDrive.trans drive)
  | ends sameHold sameDrive => exact .enterIdle r (sameHold.trans hold) (sameDrive.trans drive)

/-! ### The events of the bus engine -/

theorem State.bus_openSlot (s : State) : ∃ d, s.openSlot.bus =
    { s.bus with
      gapTimer := none, slotTimer := none, datDrive := d
      strobeTimer := if s.bus.strobeTimer.isSome then s.bus.strobeTimer else some strobeTicks } := by
  unfold State.openSlot
  exact State.bus_electDrive _

theorem State.fall_syncOk (s : State) (ok : s.bus.SyncOk) : s.fall.bus.SyncOk := by
  have falls : s.bus.lineFalls.SyncOk := ok.same rfl rfl rfl rfl
  unfold State.fall
  dsimp only
  split
  · rename_i idle
    exact ⟨by simp, by simp, fun _ => falls.drive (by simp [idle])⟩
  · rename_i gap
    obtain ⟨d, bus⟩ := State.bus_openSlot { s with bus := { s.bus.lineFalls with phase := .quiet, slotIndex := 0 } }
    rw [bus]
    exact .inRound (.inr rfl) (falls.hold (by simp [gap])) (falls.drive (by simp [gap]))
  case h_3 | h_4 | h_5 | h_6 | h_7 | h_8 =>
    rename_i slot
    obtain ⟨d, bus⟩ := State.bus_openSlot { s with bus := s.bus.lineFalls }
    rw [bus]
    exact .inRound (.inr (by rw [slot]; rfl)) (falls.hold (by simp [slot])) (falls.drive (by simp [slot]))
  all_goals exact falls.same rfl rfl rfl rfl

theorem State.completeSlot_syncOk (s : State) (dat : Bool) (ok : s.bus.SyncOk) (slot : s.bus.phase.isSlot = true) :
    (s.completeSlot dat).bus.SyncOk := by
  obtain ⟨hold, drive⟩ := ok.of_isSlot slot
  have next := State.slotResult_next
    { s with frontEnd := s.frontEnd.endCount, bus := { s.bus with slotTimer := some slotTicks } } dat slot
  exact (next.syncOk hold drive).same rfl rfl rfl rfl

theorem State.riseInPhase_syncOk (s : State) (dat : Bool) (ok : s.bus.SyncOk) : (s.riseInPhase dat).bus.SyncOk := by
  unfold State.riseInPhase
  split
  · rename_i window
    rw [State.bus_closeWindow]
    exact .inRound (.inl rfl) rfl (ok.drive (by simp [window]))
  case h_2 | h_3 | h_4 | h_5 | h_6 | h_7 =>
    rename_i slot
    exact s.completeSlot_syncOk dat ok (by rw [slot]; rfl)
  · rw [State.bus_endBreak]
    exact .enterSettling _
  · exact ok.same rfl rfl rfl rfl
  all_goals exact ok

theorem State.detectBreak_syncOk (s : State) (ok : s.bus.SyncOk) : s.detectBreak.bus.SyncOk := by
  rw [State.bus_detectBreak]
  refine ⟨fun _ => rfl, fun _ => rfl, fun phase => ok.drive fun drive => ?_⟩
  simp [drive] at phase

theorem BusRun.syncOk {s t : State} (run : BusRun s t) (ok : s.bus.SyncOk) : t.bus.SyncOk := by
  induction run with
  | timers b same => exact ok.stopped same.phase same.strobe same.hold same.drive
  | fall => exact State.fall_syncOk _ ok
  | abandon slot =>
    obtain ⟨-, drive⟩ := ok.of_isSlot slot
    exact ⟨fun _ => rfl, fun phase => absurd rfl phase, fun _ => drive⟩
  | detect => exact State.detectBreak_syncOk _ ok
  | stuck => exact ok.same rfl rfl rfl rfl
  | @rise s dat => exact State.riseInPhase_syncOk { s with bus := s.bus.lineRises } dat (ok.same rfl rfl rfl rfl)
  | driveHeld drive => exact .released rfl (ok.hold (by simp [drive])) rfl
  | driveEnds =>
    rw [State.bus_endBreak]
    exact .enterSettling _
  | settled settling => exact .enterIdle _ (ok.hold (by simp [settling])) (ok.drive (by simp [settling]))
  | operation => simpa using ok
  | trans _ _ first rest => exact rest (first ok)

theorem Timer.tick_none : Timer.tick none = none := rfl

theorem Bus.SyncOk.tick {b : Bus} (ok : b.SyncOk) : b.tick.SyncOk :=
  ⟨fun phase => by simp [Bus.tick, ok.strobe phase, Timer.tick_none],
    fun phase => by simp [Bus.tick, ok.hold phase, Timer.tick_none],
    fun phase => by simp [Bus.tick, ok.drive phase, Timer.tick_none]⟩

theorem Effect.syncOk {c : Instr} {s t : State} (effect : Effect c s t) (ok : s.bus.SyncOk) : t.bus.SyncOk := by
  cases effect with
  | reset => exact .released rfl rfl rfl
  | bus run => exact run.syncOk ok
  | starts =>
    simp only [State.startEffects, State.bus_setMode, State.bus_setMembership]
    exact (Bus.SyncOk.enterSettling s.bus).same rfl rfl rfl rfl
  | drives p idle => exact .beginBreakDrive (ok.hold (by simp [idle]))
  | pends => exact ok.same rfl rfl rfl rfl
  | sets => simpa using ok
  | lamp | counts | port | endsRead | writes | recalibrates => exact ok

/-! ## The drive of DAT -/

/-- DAT is not driven where the drive is removed. -/
theorem datInv_of_released {s : State} (released : s.bus.datDrive = false) : DatInv s := fun drives => by
  rw [released] at drives
  cases drives

/-- DAT may stay driven where phase, line and membership stay. -/
theorem DatInv.same {s t : State} (inv : DatInv s) (drive : t.bus.datDrive = s.bus.datDrive)
    (phase : t.bus.phase = s.bus.phase) (line : t.bus.lineLow = s.bus.lineLow)
    (membership : t.agreement.membership = s.agreement.membership) : DatInv t := by
  intro drives
  rw [phase, line, membership]
  exact inv (drive ▸ drives)

/-- Outside a slot, and on a high line, DAT is not driven. -/
theorem DatInv.released {s : State} (inv : DatInv s) (idle : s.bus.phase.isSlot = false ∨ s.bus.lineLow = false) :
    s.bus.datDrive = false := by
  by_contra drives
  obtain ⟨slot, low, -⟩ := inv (by simpa using drives)
  simp [slot, low] at idle

theorem Agreement.part_of_drives {complement : Bool} {i : Nat} {a : Agreement} (drives : a.drives complement i = true) :
    a.part = some .member ∨ a.part = some .forcing := by
  unfold Agreement.drives at drives
  split at drives
  · exact .inl ‹_›
  · exact .inr ‹_›
  all_goals cases drives

/-- Who drives a digest slot is a listener or a member (R71). -/
theorem State.CoreOk.membership_of_drives {s : State} (core : s.CoreOk) {complement : Bool} {i : Nat}
    (drives : s.agreement.drives complement i = true) :
    s.agreement.membership = .listen ∨ s.agreement.membership = .member := by
  rcases Agreement.part_of_drives drives with part | part
  · exact .inr (core.part_member part)
  · exact core.part_listener (.inr part)

/-- A bid is driven by a member (R27, R30). -/
theorem State.membership_of_bidding {s : State} (bids : s.openContest.contest.bidding = true) :
    s.agreement.membership = .member := by
  by_contra other
  have none : s.bidNow = none := if_neg other
  simp [State.openContest, none] at bids

/-- The station drives presence as a listener or a member, a bid and a claim as a member, and the digest passes in its part
(R27, R71, R90). -/
theorem State.CoreOk.electDrive_drives {s : State} (core : s.CoreOk) (drives : s.electDrive.bus.datDrive = true) :
    s.bus.phase.isSlot = true ∧
      (s.electDrive.agreement.membership = .listen ∨ s.electDrive.agreement.membership = .member) := by
  have after := core.electDrive
  revert drives after
  unfold State.electDrive
  cases phase : s.bus.phase <;> dsimp only <;> intro drives after
  case presence =>
    simp only [State.drivesPresence, Bool.and_eq_true, Bool.or_eq_true, beq_iff_eq] at drives
    exact ⟨rfl, drives.2⟩
  case claim => exact ⟨rfl, .inr (State.membership_of_bidding drives)⟩
  case bid =>
    rw [Bool.and_eq_true] at drives
    exact ⟨rfl, .inr (after.bidder_member drives.1)⟩
  case digestA | digestB => exact ⟨rfl, after.membership_of_drives drives⟩
  all_goals cases drives

/-! ### The events of the bus engine -/

theorem State.CoreOk.openSlot_datInv {s : State} (core : s.CoreOk) (low : s.bus.lineLow = true) : DatInv s.openSlot := by
  intro drives
  obtain ⟨d, bus⟩ := s.bus_openSlot
  have elects : State.CoreOk { s with
      bus := { s.bus with
        gapTimer := none
        slotTimer := none
        strobeTimer := if s.bus.strobeTimer.isSome then s.bus.strobeTimer else some strobeTicks }
      frontEnd := s.frontEnd.beginCount } := core.congr rfl rfl rfl
  obtain ⟨slot, membership⟩ := elects.electDrive_drives drives
  refine ⟨?_, ?_, membership⟩
  · rw [bus]
    exact slot
  · rw [bus]
    exact low

theorem State.CoreOk.fall_datInv {s : State} (core : s.CoreOk) (dat : DatInv s) (high : s.bus.lineLow = false) :
    DatInv s.fall := by
  have released := dat.released (.inr high)
  have falls : State.CoreOk { s with bus := s.bus.lineFalls } := core.congr rfl rfl rfl
  unfold State.fall
  dsimp only
  split
  · exact datInv_of_released released
  · refine openSlot_datInv ?_ rfl
    exact falls.congr rfl rfl rfl
  case h_3 | h_4 | h_5 | h_6 | h_7 | h_8 => exact falls.openSlot_datInv rfl
  all_goals exact datInv_of_released released

theorem State.riseInPhase_datInv (s : State) (dat : Bool)
    (released : s.bus.phase.isSlot = false → s.bus.datDrive = false) : DatInv (s.riseInPhase dat) := by
  unfold State.riseInPhase
  split
  · rename_i window
    refine datInv_of_released ?_
    rw [State.bus_closeWindow]
    exact released (by rw [window]; rfl)
  case h_2 | h_3 | h_4 | h_5 | h_6 | h_7 => exact datInv_of_released rfl
  · refine datInv_of_released ?_
    rw [State.bus_endBreak]
    rfl
  all_goals
    rename_i phase
    exact datInv_of_released (released (by rw [phase]; rfl))

theorem BusRun.datInv {s t : State} (run : BusRun s t) (ok : s.InService) (dat : DatInv s) : DatInv t := by
  induction run with
  | timers b same => exact dat.same same.datDrive same.phase same.lineLow rfl
  | fall high => exact ok.core.fall_datInv dat high
  | abandon => exact datInv_of_released rfl
  | detect =>
    refine datInv_of_released ?_
    rw [State.bus_detectBreak]
  | stuck => exact dat.same rfl rfl rfl rfl
  | @rise s d => exact State.riseInPhase_datInv _ d fun notSlot => dat.released (.inl notSlot)
  | driveHeld drive => exact datInv_of_released (dat.released (.inl (by rw [drive]; rfl)))
  | driveEnds =>
    refine datInv_of_released ?_
    rw [State.bus_endBreak]
    rfl
  | settled settling =>
    refine datInv_of_released ?_
    rw [Bus.datDrive_enterIdle]
    exact dat.released (.inl (by rw [settling]; rfl))
  | operation => exact dat.same (by simp) (by simp) (by simp) (by simp)
  | trans first _ firstKeeps restKeeps => exact restKeeps (first.inService ok) (firstKeeps ok dat)

/-- In OFF DAT is not driven, and stays so. -/
theorem SurfaceInv.busRun_datInv {s t : State} (inv : SurfaceInv s) (run : BusRun s t) (dat : DatInv s) : DatInv t := by
  by_cases config : s.agreement.membership = .config
  · have off := inv.config.off_iff.mp config
    obtain ⟨b, rfl, same⟩ := run.of_off off (inv.config.nothing_in_flight config)
    exact datInv_of_released (same.datDrive.trans (dat.released (.inl (by rw [off]; rfl))))
  · exact run.datInv (inv.inService config) dat

theorem Effect.datInv {c : Instr} {s t : State} (effect : Effect c s t) (inv : SurfaceInv s) (dat : DatInv s) : DatInv t := by
  cases effect with
  | reset => exact datInv_of_released rfl
  | bus run => exact inv.busRun_datInv run dat
  | starts =>
    refine datInv_of_released ?_
    simp only [State.startEffects, State.bus_setMode, State.bus_setMembership]
    rfl
  | drives p idle =>
    refine datInv_of_released ?_
    have released : s.bus.datDrive = false := dat.released (.inl (by rw [idle]; rfl))
    cases line : s.bus.lineLow <;> simp [Bus.beginBreakDrive, Bus.lineFalls, line, released]
  | sets => exact dat.same (by simp) (by simp) (by simp) (by simp)
  | lamp | counts | port | endsRead | writes | recalibrates | pends => exact dat.same rfl rfl rfl rfl

end Sys2Proof.Machine
end

section
/-! CLAIMS. The drives of the two bus lines: what every step keeps of them. -/

namespace Sys2Proof.Proofs

open Sys2Proof Sys2Proof.Machine

/-- Settles O56: no event leaves a drive where its phase has none, and only a listener or a member elects a drive of DAT. -/
theorem everyStepKeepsTheLineDrives : Obligations.EveryStepKeepsTheLineDrives := by
  unfold Obligations.EveryStepKeepsTheLineDrives
  intro s t inv dat sync stepped
  rw [syncInv_iff] at sync ⊢
  refine ⟨?_, ?_⟩
  · refine step_leads (P := fun s => SurfaceInv s ∧ DatInv s) ?_ ?_ ?_ ⟨inv, dat⟩ stepped
    · rintro s cs n ⟨inv, dat⟩
      exact ⟨inv.same rfl rfl rfl rfl rfl rfl (fun _ => rfl) inv.quiet, dat.same rfl rfl rfl rfl⟩
    · rintro s ⟨-, dat⟩
      exact dat.same rfl rfl rfl rfl
    · rintro c s t effect ⟨inv, dat⟩
      exact effect.datInv inv dat
  · exact step_leads (P := fun s => s.bus.SyncOk) (R := fun t => t.bus.SyncOk) (fun _ _ _ ok => ok)
      (fun _ ok => ok.tick) (fun _ _ effect ok => effect.syncOk ok) sync stepped

end Sys2Proof.Proofs
end

section
/-! SUPPORT. What every command leaves alone: the commands that wait, the count of free values, and the locked record. -/

namespace Sys2Proof.Machine

/-- What the bus engine and its timers leave alone. -/
theorem BusRun.samePort {s t : State} (run : BusRun s t) : SamePort s t := by
  induction run with
  | timers => exact ⟨rfl, rfl, rfl, rfl, rfl⟩
  | @fall s => exact s.fall_same
  | @abandon s => exact s.abandonRound_same
  | @detect s => exact s.detectBreak_same
  | @stuck s => exact s.reportStuck_same
  | rise dat => exact State.riseInPhase_same dat _
  | driveHeld => exact ⟨rfl, rfl, rfl, rfl, rfl⟩
  | driveEnds => exact State.endBreak_same _
  | settled => exact ⟨rfl, rfl, rfl, rfl, rfl⟩
  | operation => exact State.completeOperation_same _
  | trans _ _ first rest =>
    obtain ⟨port, store, reset, pending, count⟩ := first
    rw [SamePort, port, store, reset, pending, count] at rest
    exact rest

theorem Effect.pending_freeCount {c : Instr} {s t : State} (effect : Effect c s t) :
    t.pending = s.pending ∧ t.freeCount = s.freeCount := by
  cases effect with
  | bus run =>
    obtain ⟨-, -, -, pending, count⟩ := run.samePort
    exact ⟨pending, count⟩
  | starts | sets => exact ⟨by simp [State.startEffects], by simp [State.startEffects]⟩
  | reset | lamp | counts | port | endsRead | writes | recalibrates | drives | pends => exact ⟨rfl, rfl⟩

/-- While the store is locked only RESET reaches it (R136). -/
theorem Effect.store_eq_of_locked {c : Instr} {s t : State} (effect : Effect c s t) (other : c ≠ .reset)
    (out : s.agreement.membership ≠ .config) : t.store = s.store := by
  cases effect with
  | reset only => exact absurd only other
  | bus run => exact run.moves.store_eq
  | writes p r config | starts p config => exact absurd config out
  | sets => exact State.store_setMode _ _
  | lamp | counts | port | endsRead | recalibrates | drives | pends => rfl

end Sys2Proof.Machine
end

section
/-! CLAIMS. The queue of commands: every command is answered, the queue is taken from the front, and a locked record stays. -/

namespace Sys2Proof.Proofs

open Sys2Proof Sys2Proof.Machine

/-- Settles O3: every row of the table comes to an effect, and no effect reaches the waiting commands. -/
theorem everyCommandIsAnswered : Obligations.EveryCommandIsAnswered := by
  unfold Obligations.EveryCommandIsAnswered
  intro c s
  obtain ⟨t, ran, effect⟩ := exec_effect c s
  exact ⟨t, ran, effect.pending_freeCount⟩

/-- Settles O60: of the effects only RESET's, and in CONFIG WRITE_CONFIG's and START's, reach the store. -/
theorem lockedRecordStaysAsItIs : Obligations.LockedRecordStaysAsItIs := by
  unfold Obligations.LockedRecordStaysAsItIs
  intro c s t config locked other ran
  obtain ⟨u, comes, effect⟩ := exec_effect c s
  obtain rfl := Host.Outcome.next.inj (comes.symm.trans ran)
  exact effect.store_eq_of_locked other (config.locked_iff.mp locked)

/-- Settles O1: the front command is the one that the step matches on. -/
theorem stepRunsTheFrontCommand : Obligations.StepRunsTheFrontCommand := by
  unfold Obligations.StepRunsTheFrontCommand
  intro c rest s waiting
  rw [step, waiting]

end Sys2Proof.Proofs
end

section
/-! CLAIMS. Reset: the reset state of every block, and the port at the end of reset. -/

namespace Sys2Proof.Proofs

open Sys2Proof Sys2Proof.Machine

/-- Settles O5: RESET puts in the reset state as it stands; only the input levels and the waiting commands come from before. -/
theorem resetPutsEveryBlockInItsResetState : Obligations.ResetPutsEveryBlockInItsResetState := by
  unfold Obligations.ResetPutsEveryBlockInItsResetState
  intro s
  have entries : ∀ a : Fin 32,
      PeerTable.reset.entries[a] = { state := .absent, miss := 0, lastPresent := 0 } ∧ PeerTable.reset.presence[a] = none := by
    decide
  have channels : ∀ n : Fin 8, Processor.reset.channels[n] = ChannelEntry.reset := by decide
  refine ⟨s.beginReset, rfl, ?_⟩
  exact ⟨rfl, rfl, rfl, rfl, rfl, rfl, rfl, rfl, rfl, rfl, rfl, rfl, rfl, rfl, rfl, rfl, rfl, rfl, rfl, entries, rfl, channels,
    rfl, rfl, rfl, rfl, rfl, rfl, rfl, rfl, rfl, rfl, rfl, rfl, fun _ => rfl, rfl, rfl⟩

/-- Settles O6: the end of reset looks at the level of CSN, and at nothing where no reset is in progress. -/
theorem resetEndLooksAtCsn : Obligations.ResetEndLooksAtCsn := by
  unfold Obligations.ResetEndLooksAtCsn
  intro s
  have ends : exec .resetEnd s = execResetEnd s := rfl
  rw [ends, execResetEnd]
  refine ⟨fun reset low => ?_, fun reset high => ?_, fun out => ?_⟩
  · rw [if_pos reset, low]
    rfl
  · rw [if_pos reset, high]
    rfl
  · rw [out]
    rfl

end Sys2Proof.Proofs
end

section
/-! SUPPORT. What is due, command by command (log 1). -/

namespace Sys2Proof.Machine

theorem Timer.isDue_iff (t : Timer) : t.isDue = true ↔ t = some 0 := beq_iff_eq

/-- The break limit applies outside OFF, SETTLING and BREAK, and once in the station's own drive (R16). -/
theorem Bus.breakApplies_iff (b : Bus) :
    b.breakApplies = true ↔ b.phase ≠ .off ∧ b.phase ≠ .settling ∧ b.phase ≠ .brk ∧
      (b.phase = .breakDrive → b.driveBreakSeen = false) := by
  cases phase : b.phase <;> simp [Bus.breakApplies, phase]

/-- A tick of the station, unit by unit. -/
theorem State.tick_eq (s : State) :
    s.tick = { s with
      bus := { s.bus with
        roundTimer := s.bus.roundTimer.map (· - 1)
        holdTimer := s.bus.holdTimer.map (· - 1)
        gapTimer := s.bus.gapTimer.map (· - 1)
        slotTimer := s.bus.slotTimer.map (· - 1)
        strobeTimer := s.bus.strobeTimer.map (· - 1)
        settleTimer := s.bus.settleTimer.map (· - 1)
        breakTimer := s.bus.breakTimer.map (· - 1)
        lowTicks := if s.bus.lineLow = true ∧ s.bus.phase ≠ .off then s.bus.lowTicks + 1 else s.bus.lowTicks }
      processor := { s.processor with operationTimer := s.processor.operationTimer.map (· - 1) }
      indicator := { s.indicator with
        clearTimer := s.indicator.clearTimer.map (· - 1)
        minPumpTimer := s.indicator.minPumpTimer.map (· - 1)
        pumpPos := if s.indicator.phase = .pumping then s.indicator.pumpPos + 1 else s.indicator.pumpPos } } := by
  simp only [State.tick, Bus.tick, Indicator.tick, Timer.tick, Bool.and_eq_true, decide_eq_true_eq]

/-- What is due, one line for each command. -/
theorem State.mem_due_iff (s : State) (c : Instr) :
    c ∈ s.due ↔
      (c = .roundTimerExpiry ∧ s.bus.phase = .idle ∧ s.bus.roundTimer = some 0) ∨
      (c = .windowHoldEnd ∧ s.bus.holdTimer = some 0) ∨
      (c = .gapTimerExpiry ∧ s.bus.phase = .gap ∧ s.bus.gapTimer = some 0) ∨
      (c = .slotIntervalExpiry ∧ s.bus.phase.isSlot = true ∧ s.bus.slotTimer = some 0) ∨
      (c = .strobeEnd ∧ s.bus.strobeTimer = some 0) ∨
      (c = .settlingComplete ∧ s.bus.phase = .settling ∧ s.bus.settleTimer = some 0) ∨
      (c = .commandedBreakEnd true ∧ s.bus.phase = .breakDrive ∧ s.bus.breakTimer = some 0) ∨
      (c = .longLow ∧ s.longLowDue = true) ∨
      (c = .breakDetected ∧ s.breakDue = true) ∨
      (c = .syncStuck ∧ s.stuckDue = true) ∨
      (c = .processingOperation ∧ s.processor.inFlight.isSome = true ∧ s.processor.operationTimer = some 0) ∨
      (c = .preClearEnd ∧ s.indicator.phase = .preClear ∧ s.indicator.clearTimer = some 0) ∨
      (c = .postClearEnd ∧ s.indicator.phase = .postClear ∧ s.indicator.clearTimer = some 0) ∨
      (c = .minimumPumpTimerExpiry ∧ s.indicator.phase = .pumping ∧ s.indicator.minPumpTimer = some 0) ∨
      (c = .pumpHighTimeEnd ∧ s.indicator.phase = .pumping ∧ s.indicator.pumpHigh = true ∧
        pumpHighTicks s.store.record ≤ s.indicator.pumpPos) ∨
      (c = .pumpPeriodEnd ∧ s.indicator.phase = .pumping ∧ pumpPeriod s.store.record ≤ s.indicator.pumpPos) := by
  simp only [State.due, List.mem_append, List.mem_ite_nil_right, List.mem_singleton, Timer.isDue_iff, or_assoc,
    and_comm (b := c = _)]

/-- An idle step takes one of the commands that are due. -/
theorem State.idleStep_of_due (s : State) (due : s.due ≠ []) :
    ∃ c ∈ s.due, ∃ n, s.idleStep = { s with pending := [c], freeCount := n } := by
  unfold State.idleStep
  split
  · exact absurd ‹_› due
  · rename_i c only
    exact ⟨c, by simp [only], s.freeCount, rfl⟩
  · rename_i c cs _ several
    have inside : Config.freeOrder s.freeCount % (cs.length + 1) < (c :: cs).length := Nat.mod_lt _ (Nat.succ_pos _)
    refine ⟨(c :: cs).getD (Config.freeOrder s.freeCount % (cs.length + 1)) c, ?_, _, rfl⟩
    rw [several, List.getD_eq_getElem _ _ inside]
    exact List.getElem_mem inside

end Sys2Proof.Machine
end

section
/-! SUPPORT. A due command, once taken, is due no longer. -/

namespace Sys2Proof.Machine

/-- Phase and line after a pull: a fall in IDLE opens a window, one in GAP a slot, and one in a slot the next slot. -/
theorem State.phase_pull_of_idle (s : State) (idle : s.bus.phase = .idle) (high : s.bus.lineLow = false) :
    s.pull.bus.phase = .window := by
  have phase : s.bus.lineFalls.phase = .idle := idle
  rw [s.pull_of_high high, State.fall]
  simp only [phase]
  rfl

theorem State.phase_pull_of_gap (s : State) (gap : s.bus.phase = .gap) (high : s.bus.lineLow = false) :
    s.pull.bus.phase = .quiet := by
  have phase : s.bus.lineFalls.phase = .gap := gap
  rw [s.pull_of_high high, State.fall]
  simp only [phase]
  obtain ⟨d, bus⟩ := State.bus_openSlot { s with bus := { s.bus.lineFalls with phase := .quiet, slotIndex := 0 } }
  rw [bus]

theorem State.fall_of_isSlot (s : State) (slot : s.bus.phase.isSlot = true) :
    s.fall = State.openSlot { s with bus := s.bus.lineFalls } := by
  unfold State.fall
  cases phase : s.bus.phase <;> simp [phase, Phase.isSlot] at slot <;> simp [Bus.lineFalls, phase]

theorem State.slotTimer_pull_of_isSlot (s : State) (slot : s.bus.phase.isSlot = true) (high : s.bus.lineLow = false) :
    s.pull.bus.slotTimer = none := by
  rw [s.pull_of_high high, s.fall_of_isSlot slot]
  obtain ⟨d, bus⟩ := State.bus_openSlot { s with bus := s.bus.lineFalls }
  rw [bus]

/-- A stopped timer stays stopped on a low line, and a fall leaves the phase in which it is due, or stops it anew. -/
theorem State.roundTimer_spent (s : State) (idle : s.bus.phase = .idle) (stopped : s.bus.roundTimer = none) :
    Instr.roundTimerExpiry ∉ s.pull.due := by
  cases line : s.bus.lineLow with
  | false => simp [State.mem_due_iff, s.phase_pull_of_idle idle line]
  | true => simp [State.mem_due_iff, s.pull_of_low line, stopped]

theorem State.gapTimer_spent (s : State) (gap : s.bus.phase = .gap) (stopped : s.bus.gapTimer = none) :
    Instr.gapTimerExpiry ∉ s.pull.due := by
  cases line : s.bus.lineLow with
  | false => simp [State.mem_due_iff, s.phase_pull_of_gap gap line]
  | true => simp [State.mem_due_iff, s.pull_of_low line, stopped]

theorem State.slotTimer_spent (s : State) (slot : s.bus.phase.isSlot = true) (stopped : s.bus.slotTimer = none) :
    Instr.slotIntervalExpiry ∉ s.pull.due := by
  cases line : s.bus.lineLow with
  | false => simp [State.mem_due_iff, s.slotTimer_pull_of_isSlot slot line]
  | true => simp [State.mem_due_iff, s.pull_of_low line, stopped]

theorem State.phase_releaseBreak (s : State) (o : Bool) : (s.releaseBreak o).bus.phase ≠ .breakDrive := by
  unfold State.releaseBreak
  dsimp only
  split
  · simp
  · rw [State.bus_endBreak]
    simp [Bus.enterSettling]

theorem State.stuckDue_stuckLimit (s : State) : (if s.stuckDue then s.reportStuck else s).stuckDue = false := by
  split
  · simp [State.stuckDue, State.reportStuck]
  · rw [← Bool.not_eq_true]
    assumption

theorem State.stuckDue_takeLowLimits (s : State) : s.takeLowLimits.stuckDue = false := State.stuckDue_stuckLimit _

theorem State.breakDue_detectBreak (s : State) : s.detectBreak.breakDue = false := by
  have applies : s.detectBreak.bus.breakApplies = false := by
    rw [State.bus_detectBreak]
    by_cases drive : s.bus.phase = .breakDrive <;> simp [Bus.breakApplies, drive]
  simp [State.breakDue, applies]

theorem State.inFlight_completeOperation (s : State) : s.completeOperation.processor.inFlight = none := by
  unfold State.completeOperation
  split
  · assumption
  · rw [State.foldl_queueAt_eq]
    rfl

theorem cfgPumpSelect_le (r : ConfigRecord) : cfgPumpSelect r ≤ 7 := by
  rw [cfgPumpSelect_eq]
  omega

/-- The pump period is never 0. -/
theorem pumpPeriod_ne_zero (r : ConfigRecord) : pumpPeriod r ≠ 0 := by
  have le : 2 ^ cfgPumpSelect r ≤ 2 ^ 7 := Nat.pow_le_pow_right (by decide) (cfgPumpSelect_le r)
  exact (Nat.div_pos (by omega) (Nat.two_pow_pos _)).ne'

theorem Indicator.phase_preClearEnds (r : ConfigRecord) (i : Indicator) : (i.preClearEnds r).phase ≠ .preClear := by
  unfold Indicator.preClearEnds
  split <;> simp [Indicator.enterPumping, Indicator.enterDark]

theorem Indicator.phase_postClearEnds (r : ConfigRecord) (i : Indicator) : (i.postClearEnds r).phase ≠ .postClear := by
  unfold Indicator.postClearEnds
  split <;> simp [Indicator.enterPreClear, Indicator.enterDark]

theorem Indicator.minPumpTimer_minPumpExpires (r : ConfigRecord) (i : Indicator) :
    (i.minPumpExpires r).minPumpTimer = none := by
  unfold Indicator.minPumpExpires
  dsimp only
  split <;> rfl

end Sys2Proof.Machine
end

section
/-! CLAIMS. The idle step, and the reset state against every invariant. -/

namespace Sys2Proof.Proofs

open Sys2Proof Sys2Proof.Machine

/-- Settles O2: what is due is read off the list of checks, the limits in ticks; the idle step ticks where the list is empty. -/
theorem idleStepTicksOrTakesWhatIsDue : Obligations.IdleStepTicksOrTakesWhatIsDue := by
  unfold Obligations.IdleStepTicksOrTakesWhatIsDue
  refine ⟨fun s c => ?_, fun s none => ?_⟩
  · rw [State.mem_due_iff, State.longLowDue_iff, State.breakDue_iff, State.stuckDue_iff, Bus.breakApplies_iff]
    simp only [and_assoc]
  · have idles : step s = .next s.idleStep := by rw [step, none]
    rw [idles]
    refine ⟨fun nothing => ?_, fun due => ?_⟩
    · rw [State.idleStep, nothing, State.tick_eq]
    · obtain ⟨c, mem, n, takes⟩ := s.idleStep_of_due due
      exact ⟨c, mem, n, by rw [takes]⟩

/-- Settles O4: each due command stops its timer, leaves its phase or marks its limit as taken. -/
theorem dueCommandIsSpent : Obligations.DueCommandIsSpent := by
  unfold Obligations.DueCommandIsSpent
  intro c s due
  rcases (s.mem_due_iff c).mp due with
    ⟨rfl, idle, runs⟩ | ⟨rfl, runs⟩ | ⟨rfl, gap, runs⟩ | ⟨rfl, slot, runs⟩ | ⟨rfl, runs⟩ | ⟨rfl, settling, runs⟩ |
    ⟨rfl, drive, runs⟩ | ⟨rfl, limit⟩ | ⟨rfl, limit⟩ | ⟨rfl, limit⟩ | ⟨rfl, inFlight, runs⟩ | ⟨rfl, phase, runs⟩ |
    ⟨rfl, phase, runs⟩ | ⟨rfl, phase, runs⟩ | ⟨rfl, phase, high, -⟩ | ⟨rfl, phase, -⟩
  · exact ⟨_, congrArg Host.Outcome.next (if_pos ⟨idle, by simp [runs]⟩), State.roundTimer_spent _ idle rfl⟩
  · refine ⟨_, congrArg Host.Outcome.next (if_pos (by simp [runs])), ?_⟩
    simp [State.mem_due_iff]
  · exact ⟨_, congrArg Host.Outcome.next (if_pos ⟨gap, by simp [runs]⟩), State.gapTimer_spent _ gap rfl⟩
  · exact ⟨_, congrArg Host.Outcome.next (if_pos ⟨slot, by simp [runs]⟩), State.slotTimer_spent _ slot rfl⟩
  · refine ⟨_, rfl, ?_⟩
    simp [State.mem_due_iff]
  · refine ⟨_, congrArg Host.Outcome.next (if_pos ⟨settling, by simp [runs]⟩), ?_⟩
    rcases (s.bus.enterIdle_phase s.store.record).1 with phase | phase <;> simp [State.mem_due_iff, phase]
  · refine ⟨_, congrArg Host.Outcome.next (if_pos ⟨drive, by simp [runs]⟩), ?_⟩
    simp [State.mem_due_iff, State.phase_releaseBreak]
  · obtain ⟨low, slot, -⟩ := s.longLowDue_iff.mp limit
    refine ⟨_, congrArg Host.Outcome.next (if_pos ⟨low, slot⟩), ?_⟩
    simp [State.mem_due_iff, State.longLowDue, State.bus_abandonRound, Phase.isSlot]
  · obtain ⟨low, applies, -⟩ := s.breakDue_iff.mp limit
    refine ⟨_, congrArg Host.Outcome.next (if_pos ⟨low, applies⟩), ?_⟩
    simp [State.mem_due_iff, State.breakDue_detectBreak]
  · obtain ⟨low, on, -⟩ := s.stuckDue_iff.mp limit
    refine ⟨_, congrArg Host.Outcome.next (if_pos ⟨low, on⟩), ?_⟩
    simp [State.mem_due_iff, State.stuckDue_takeLowLimits]
  · refine ⟨_, rfl, ?_⟩
    simp [State.mem_due_iff, State.inFlight_completeOperation]
  · refine ⟨_, congrArg Host.Outcome.next (if_pos phase), ?_⟩
    simp [State.mem_due_iff, Indicator.phase_preClearEnds]
  · refine ⟨_, congrArg Host.Outcome.next (if_pos phase), ?_⟩
    simp [State.mem_due_iff, Indicator.phase_postClearEnds]
  · refine ⟨_, congrArg Host.Outcome.next (if_pos ⟨phase, by simp [runs]⟩), ?_⟩
    simp [State.mem_due_iff, Indicator.minPumpTimer_minPumpExpires]
  · refine ⟨_, congrArg Host.Outcome.next (if_pos ⟨phase, high⟩), ?_⟩
    simp [State.mem_due_iff]
  · refine ⟨_, congrArg Host.Outcome.next (if_pos phase), ?_⟩
    simp [State.mem_due_iff, pumpPeriod_ne_zero]

/-- Settles O59: the state after reset is that of CONFIG, with no timer running and every entry at its first value. -/
theorem resetStateMeetsEveryInvariant : Obligations.ResetStateMeetsEveryInvariant := by
  unfold Obligations.ResetStateMeetsEveryInvariant
  have lamp : Indicator.reset.Ok := ⟨by decide, by decide, by decide, by decide⟩
  obtain ⟨channels, frontEnd⟩ := State.reset.inRange_iff.mp State.reset_inRange
  exact ⟨(queueInv_iff _).mpr EventQueue.reset_ok, surfaceInv_of_config rfl rfl rfl rfl rfl rfl rfl rfl rfl rfl rfl rfl rfl,
    datInv_of_released rfl, (syncInv_iff _).mpr (.released rfl rfl rfl), (lampInv_iff _).mpr ⟨lamp, rfl⟩, channels, frontEnd⟩

end Sys2Proof.Proofs
end

section
/-! SUPPORT. The bytes of a command (R173): encoding and decoding, byte by byte and bit by bit (R143, R144). -/

namespace Sys2Proof.Machine

/-! ## Encoding and decoding -/

/-- The code bytes of R173, by what `namesCommand` says of each. -/
theorem namesCommand_eq_true_iff (code : Byte) :
    namesCommand code = true ↔
      code ∈ [0x00#8, 0x10#8, 0x11#8, 0x12#8, 0x13#8, 0x14#8, 0x20#8, 0x21#8, 0x30#8, 0x31#8, 0x32#8] := by
  rw [namesCommand, List.contains_iff_mem]

theorem recordOfBytes_toList (r : ConfigRecord) : recordOfBytes r.toList = r := by
  ext i inside
  simp [recordOfBytes, List.getD_eq_getElem?_getD]

/-- A byte that names no command stands for itself and has no arguments (R145). -/
theorem commandOf_of_unnamed {code : Byte} (unnamed : namesCommand code = false) :
    argumentBytes code = 0 ∧ commandOf code [] = .unknown code := by
  rw [← Bool.not_eq_true, namesCommand_eq_true_iff] at unnamed
  simp only [List.mem_cons, List.not_mem_nil, or_false, not_or] at unnamed
  simp [argumentBytes, commandOf, unnamed]

/-- A command is its code byte and as many argument bytes as the code asks for. -/
theorem encodeCommand_eq (c : PortCommand) (wf : c.wf = true) :
    ∃ code args, encodeCommand c = code :: args ∧ args.length = argumentBytes code ∧ commandOf code args = c := by
  cases c with
  | writeConfig r => exact ⟨0x20#8, r.toList, rfl, r.length_toList, congrArg PortCommand.writeConfig (recordOfBytes_toList r)⟩
  | unknown code =>
    have unnamed : namesCommand code = false := by simpa [PortCommand.wf] using wf
    obtain ⟨none, self⟩ := commandOf_of_unnamed unnamed
    exact ⟨code, [], rfl, none.symm, self⟩
  | _ => exact ⟨_, _, rfl, rfl, rfl⟩

theorem decodeCommand_encodeCommand (c : PortCommand) (wf : c.wf = true) : decodeCommand (encodeCommand c) = some c := by
  obtain ⟨code, args, bytes, length, is⟩ := encodeCommand_eq c wf
  rw [bytes, decodeCommand, if_pos length, is]

/-- Before its last byte is there a command is not spelled. -/
theorem decodeCommand_take (c : PortCommand) (wf : c.wf = true) (k : Nat) (early : k < (encodeCommand c).length) :
    decodeCommand ((encodeCommand c).take k) = none := by
  obtain ⟨code, args, bytes, length, -⟩ := encodeCommand_eq c wf
  rw [bytes] at early ⊢
  cases k with
  | zero => rfl
  | succ k =>
    rw [List.length_cons] at early
    rw [List.take_succ_cons, decodeCommand, if_neg]
    rw [List.length_take]
    omega

/-- What is decoded is well-formed: a byte is unknown only where it names nothing. -/
theorem wf_of_decodeCommand {bytes : List Byte} {c : PortCommand} (decoded : decodeCommand bytes = some c) : c.wf = true := by
  unfold decodeCommand at decoded
  split at decoded
  · cases decoded
  · rename_i code args
    split at decoded
    · obtain rfl := Option.some.inj decoded
      unfold commandOf
      repeat' split
      all_goals try rfl
      simp [PortCommand.wf, namesCommand, *]
    · cases decoded

/-! ## The bits that come in -/

/-- `s` with these bits and bytes received of a transaction. -/
def State.received (bits : List Bool) (bytes : List Byte) (s : State) : State :=
  { s with port := { s.port with rxBits := bits, rxBytes := bytes } }

@[simp] theorem State.rxBits_received (bits : List Bool) (bytes : List Byte) (s : State) :
    (s.received bits bytes).port.rxBits = bits := rfl

@[simp] theorem State.rxBytes_received (bits : List Bool) (bytes : List Byte) (s : State) :
    (s.received bits bytes).port.rxBytes = bytes := rfl

@[simp] theorem State.portState_received (bits : List Bool) (bytes : List Byte) (s : State) :
    (s.received bits bytes).port.state = s.port.state := rfl

@[simp] theorem State.received_received (bits bits' : List Bool) (bytes bytes' : List Byte) (s : State) :
    (s.received bits bytes).received bits' bytes' = s.received bits' bytes' := rfl

theorem State.received_self (s : State) : s.received s.port.rxBits s.port.rxBytes = s := rfl

/-- Taking a command looks at nothing that the port has received of it. -/
@[simp] theorem State.takeCommand_received (c : PortCommand) (bits : List Bool) (bytes : List Byte) (s : State) :
    (s.received bits bytes).takeCommand c = s.takeCommand c := by
  cases c <;> rfl

/-- In RECEIVING an SCK edge takes a bit in (R143). -/
theorem exec_sckRisingEdge_of_receiving (sdi : Bool) (s : State) (receiving : s.port.state = .receiving) :
    exec (.sckRisingEdge sdi) s = .next (s.bitIn sdi) := by
  have arm : exec (.sckRisingEdge sdi) s = execSckRisingEdge sdi s := rfl
  rw [arm, execSckRisingEdge, receiving]

theorem clockIn_cons (sdi : Bool) (rest : List Bool) (s : State) (receiving : s.port.state = .receiving) :
    clockIn (sdi :: rest) s = clockIn rest (s.bitIn sdi) := by
  rw [clockIn, exec_sckRisingEdge_of_receiving sdi s receiving]

theorem State.bitIn_of_short (sdi : Bool) (s : State) (short : s.port.rxBits.length < 7) :
    s.bitIn sdi = s.received (s.port.rxBits ++ [sdi]) s.port.rxBytes := by
  rw [State.bitIn]
  exact if_pos (by simp; omega)

theorem State.bitIn_of_full (sdi : Bool) (s : State) (full : s.port.rxBits.length = 7) :
    s.bitIn sdi = s.byteIn (byteOfBits (s.port.rxBits ++ [sdi])) := by
  rw [State.bitIn]
  exact if_neg (by simp [full])

theorem State.byteIn_of_decoded {b : Byte} {s : State} {c : PortCommand}
    (decoded : decodeCommand (s.port.rxBytes ++ [b]) = some c) : s.byteIn b = s.takeCommand c := by
  simp only [State.byteIn, decoded]

theorem State.byteIn_of_not_decoded {b : Byte} {s : State} (partly : decodeCommand (s.port.rxBytes ++ [b]) = none) :
    s.byteIn b = s.received [] (s.port.rxBytes ++ [b]) := by
  simp only [State.byteIn, partly, State.received]

/-- Bits before the eighth are kept. -/
theorem clockIn_bits (bits rest : List Bool) (s : State) (receiving : s.port.state = .receiving)
    (short : s.port.rxBits.length + bits.length ≤ 7) :
    clockIn (bits ++ rest) s = clockIn rest (s.received (s.port.rxBits ++ bits) s.port.rxBytes) := by
  induction bits generalizing s with
  | nil => rw [List.append_nil, State.received_self, List.nil_append]
  | cons b bits ih =>
    rw [List.length_cons] at short
    rw [List.cons_append, clockIn_cons b _ s receiving, s.bitIn_of_short b (by omega)]
    rw [ih (s.received (s.port.rxBits ++ [b]) s.port.rxBytes) receiving (by simp; omega)]
    simp

/-- The eight bits of a byte come to that byte. -/
theorem clockIn_byte (b : Byte) (rest : List Bool) (s : State) (receiving : s.port.state = .receiving)
    (none : s.port.rxBits = []) :
    ∃ bits, clockIn (bitsOfByte b ++ rest) s = clockIn rest ((s.received bits s.port.rxBytes).byteIn b) := by
  obtain ⟨bits, last, split, seven⟩ : ∃ bits last, bitsOfByte b = bits ++ [last] ∧ bits.length = 7 :=
    ⟨_, _, (List.dropLast_append_getLast (by simp [bitsOfByte])).symm, by simp [bitsOfByte]⟩
  have byte : byteOfBits (bits ++ [last]) = b := split ▸ byteOfBits_bitsOfByte b
  refine ⟨bits, ?_⟩
  rw [split, List.append_assoc, clockIn_bits bits _ s receiving (by simp [none, seven]), none, List.nil_append,
    List.singleton_append, clockIn_cons last rest (s.received bits s.port.rxBytes) receiving,
    State.bitIn_of_full last _ seven, State.rxBits_received, byte]

/-- The bytes of a command that are still to come take the command with their last bit. -/
theorem clockIn_command (c : PortCommand) (wf : c.wf = true) (earlier later : List Byte) (s : State)
    (bytes : encodeCommand c = earlier ++ later) (more : later ≠ []) (receiving : s.port.state = .receiving)
    (noBits : s.port.rxBits = []) (received : s.port.rxBytes = earlier) :
    clockIn (bitsOfBytes later) s = .next (s.takeCommand c) := by
  induction later generalizing earlier s with
  | nil => exact absurd rfl more
  | cons b later ih =>
    have shifted : bitsOfBytes (b :: later) = bitsOfByte b ++ bitsOfBytes later := rfl
    obtain ⟨bits, clocked⟩ := clockIn_byte b (bitsOfBytes later) s receiving noBits
    rw [shifted, clocked, received]
    cases later with
    | nil =>
      have decoded : decodeCommand (earlier ++ [b]) = some c := bytes ▸ decodeCommand_encodeCommand c wf
      rw [State.byteIn_of_decoded (s := s.received bits earlier) decoded, State.takeCommand_received]
      rfl
    | cons b' later =>
      have early : (encodeCommand c).take (earlier.length + 1) = earlier ++ [b] := by
        rw [bytes, List.take_append]
        simp
      have partly : decodeCommand (earlier ++ [b]) = none := by
        rw [← early]
        exact decodeCommand_take c wf _ (by rw [bytes]; simp)
      rw [State.byteIn_of_not_decoded (s := s.received bits earlier) partly, State.received_received,
        State.rxBytes_received, ih (earlier ++ [b]) (s.received [] (earlier ++ [b])) (by rw [bytes, List.append_assoc]; rfl) (by simp) receiving rfl rfl,
        State.takeCommand_received]

/-! ## The bits that go out -/

/-- Bit `n` of the outgoing bytes is bit `n % 8` of byte `n / 8`, the most significant first (R143, R171). -/
theorem getD_bitsOfBytes {bs : List Byte} {n : Nat} {b : Byte} (at_ : bs[n / 8]? = some b) :
    (bitsOfBytes bs).getD n false = b.getLsbD (7 - n % 8) := by
  induction bs generalizing n with
  | nil => simp at at_
  | cons a bs ih =>
    have shifted : bitsOfBytes (a :: bs) = bitsOfByte a ++ bitsOfBytes bs := rfl
    rw [shifted]
    by_cases first : n < 8
    · rw [Nat.div_eq_of_lt first] at at_
      obtain rfl : a = b := by simpa using at_
      rw [List.getD_append _ _ _ _ first]
      interval_cases n <;> rfl
    · obtain ⟨m, rfl⟩ := Nat.exists_eq_add_of_le' (Nat.le_of_not_lt first)
      rw [Nat.add_div_right _ (by decide), List.getElem?_cons_succ] at at_
      rw [List.getD_append_right _ _ _ _ (by simp [bitsOfByte]), Nat.add_mod_right, ← ih at_]
      simp [bitsOfByte]

end Sys2Proof.Machine
end

section
/-! CLAIMS. The local port: the bytes of a command, and the bits of a transaction. -/

namespace Sys2Proof.Proofs

open Sys2Proof Sys2Proof.Machine

/-- Settles O10: a command is its code byte and the argument bytes that the code asks for. -/
theorem portCommandsRoundTrip : Obligations.PortCommandsRoundTrip := by
  unfold Obligations.PortCommandsRoundTrip
  exact fun c wf => ⟨decodeCommand_encodeCommand c wf, decodeCommand_take c wf⟩

/-- Settles O9: each byte but the last is kept, and the last takes the command. -/
theorem clockedBitsTakeTheCommand : Obligations.ClockedBitsTakeTheCommand := by
  unfold Obligations.ClockedBitsTakeTheCommand
  intro c s wf receiving noBits noBytes
  have some : encodeCommand c ≠ [] := by
    obtain ⟨code, args, bytes, -, -⟩ := encodeCommand_eq c wf
    simp [bytes]
  rw [clockIn_command c wf [] (encodeCommand c) s rfl some receiving noBits noBytes, exec_rowOf c s wf,
    s.whenReceiving_of_receiving _ receiving]

/-- Settles O8: the edge by the port's state and the bits it has, and SDO from the outgoing bytes. -/
theorem clockEdgeShiftsOneBit : Obligations.ClockEdgeShiftsOneBit := by
  unfold Obligations.ClockEdgeShiftsOneBit
  intro sdi s
  have arm : exec (.sckRisingEdge sdi) s = execSckRisingEdge sdi s := rfl
  refine ⟨fun receiving short => ?_, fun receiving full partly => ?_, fun c receiving full decoded => ?_, fun sending => ?_,
    fun still => ?_, fun receiving => ?_, fun b sending byte => ?_, fun sending beyond => ?_, fun still => ?_⟩
  · rw [exec_sckRisingEdge_of_receiving sdi s receiving, s.bitIn_of_short sdi short]
    rfl
  · rw [exec_sckRisingEdge_of_receiving sdi s receiving, s.bitIn_of_full sdi full, State.byteIn_of_not_decoded partly]
    rfl
  · refine ⟨s.takeCommand c, ?_, ?_⟩
    · rw [exec_sckRisingEdge_of_receiving sdi s receiving, s.bitIn_of_full sdi full, State.byteIn_of_decoded decoded]
    · rw [exec_rowOf c s (wf_of_decodeCommand decoded), s.whenReceiving_of_receiving _ receiving]
  · rw [arm, execSckRisingEdge, sending]
    rfl
  · rw [arm, execSckRisingEdge]
    rcases still with state | state <;> rw [state]
  · rw [State.sdo, receiving]
  · rw [State.sdo, sending]
    exact congrArg some (getD_bitsOfBytes byte)
  · rw [State.sdo, sending]
    refine congrArg some (List.getD_eq_default _ _ ?_)
    rwa [length_bitsOfBytes]
  · rw [State.sdo]
    rcases still with state | state <;> rw [state]

end Sys2Proof.Proofs
end

section
/-! SUPPORT. The local port's commands that change the station: what each does when it is taken. -/

namespace Sys2Proof.Machine

/-- The end of a READ_EVENT that stands removes the head (R158, R159). -/
theorem State.endRead_of_shifted (s : State) (intact : s.queue.latch = some .intact) (shifted : 72 ≤ s.port.sent) :
    s.endRead = EventQueue.removeHead s.bus.stamp { s.queue with latch := none } :=
  if_pos ⟨intact, decide_eq_true shifted⟩

theorem State.endRead_of_not (s : State) (not : s.queue.latch ≠ some .intact ∨ s.port.sent < 72) :
    s.endRead = { s.queue with latch := none } := by
  refine if_neg fun ⟨intact, shifted⟩ => ?_
  rw [Port.recordShifted, decide_eq_true_eq] at shifted
  rcases not with other | short
  · exact other intact
  · omega

theorem ChannelState.code_eq (c : ChannelState) :
    c.code = match c with
      | .unused => 0 | .calibrating => 1 | .idle => 2 | .pendingTouch => 3 | .touched => 4 | .pendingRelease => 5 := by
  cases c <;> rfl

/-- The eight bytes of a channel: state, validity, baseline, last result and strength (R174). -/
theorem ChannelEntry.bytes_eq (c : ChannelEntry) :
    c.bytes = [c.state.code,
      BitVec.ofNat 8 ((if c.baseline.isSome then 2 else 0) + (if c.lastResult.isSome then 1 else 0)),
      BitVec.ofNat 8 (c.baseline.getD 0 / 256), BitVec.ofNat 8 (c.baseline.getD 0),
      BitVec.ofNat 8 (c.lastResult.getD 0 / 256), BitVec.ofNat 8 (c.lastResult.getD 0),
      BitVec.ofNat 8 (c.strength / 256), BitVec.ofNat 8 c.strength] := by
  cases baseline : c.baseline <;> cases last : c.lastResult <;> simp [ChannelEntry.bytes, byteOf, bytesOf16, baseline, last]

/-- In RECEIVING a refusal or an answer latches its bytes (R144, R145). -/
theorem exec_eq_withAnswer {i : Instr} {take : State → State} {s : State} {st : Status} {results : List Byte}
    (arm : exec i s = .next (s.whenReceiving take)) (answers : take s = s.answer st results)
    (receiving : s.port.state = .receiving) : exec i s = .next (s.withAnswer (st.code :: results)) := by
  rw [exec_of_receiving arm receiving, answers, State.answer_eq_withAnswer]

end Sys2Proof.Machine
end

section
/-! CLAIMS. The local port: transactions, READ_EVENT, READ_CHANNEL and WRITE_CONFIG. -/

namespace Sys2Proof.Proofs

open Sys2Proof Sys2Proof.Machine

/-- Settles O7: the fall by the port's state, the rise by the latch and the bits shifted out. -/
theorem csnBeginsAndEndsATransaction : Obligations.CsnBeginsAndEndsATransaction := by
  unfold Obligations.CsnBeginsAndEndsATransaction
  refine ⟨fun s => ?_, fun s => ?_⟩
  · have falls : exec .csnFall s = execCsnFall s := rfl
    rw [falls, execCsnFall]
    refine ⟨fun high idle running => ?_, fun high other => ?_, fun low => ?_⟩
    · rw [high, if_neg (by decide), if_pos ⟨idle, running⟩]
      rfl
    · rw [high, if_neg (by decide), if_neg]
      rintro ⟨idle, running⟩
      simp [idle, running] at other
    · rw [if_pos low]
  · have rises : exec .csnRise s = execCsnRise s := rfl
    rw [rises, execCsnRise]
    refine ⟨fun low intact shifted lost r rest records => ?_, fun low intact shifted lost r rest records => ?_,
      fun low not => ?_, fun high => ?_⟩
    · rw [if_pos low, s.endRead_of_shifted intact shifted, EventQueue.removeHead, if_pos lost, records, lost]
      rfl
    · rw [if_pos low, s.endRead_of_shifted intact shifted, EventQueue.removeHead, if_neg lost, records]
      rfl
    · rw [if_pos low, s.endRead_of_not not]
      rfl
    · rw [high]
      rfl

/-- Settles O12: by whether a record is held. -/
theorem readEventLatchesTheHead : Obligations.ReadEventLatchesTheHead := by
  unfold Obligations.ReadEventLatchesTheHead
  intro s receiving
  have taken : exec .readEvent s = .next s.takeReadEvent := exec_of_receiving (take := State.takeReadEvent) rfl receiving
  rw [taken]
  refine ⟨fun empty => ?_, fun r rest held => ?_⟩
  · rw [State.takeReadEvent, empty]
    rfl
  · rw [State.takeReadEvent, held]
    rfl

/-- Settles O15: by the membership. -/
theorem writeConfigReplacesTheRecord : Obligations.WriteConfigReplacesTheRecord := by
  unfold Obligations.WriteConfigReplacesTheRecord
  intro r s receiving
  have taken : exec (.writeConfig r) s = .next (s.takeWriteConfig r) :=
    exec_of_receiving (take := State.takeWriteConfig r) rfl receiving
  rw [taken, State.takeWriteConfig]
  refine ⟨fun config => ?_, fun out => ?_⟩
  · rw [if_pos config]
    rfl
  · rw [if_neg out]
    rfl

/-- Settles O14: by the membership and the channel number; the validity byte has a bit for baseline and for sample. -/
theorem readChannelReturnsTheEntry : Obligations.ReadChannelReturnsTheEntry := by
  unfold Obligations.ReadChannelReturnsTheEntry
  intro s receiving
  have taken (b : Byte) : exec (.readChannel b) s = .next (s.takeReadChannel b) :=
    exec_of_receiving (take := State.takeReadChannel b) rfl receiving
  refine ⟨fun b config => ?_, fun b out beyond => ?_, fun n out below => ?_⟩
  · rw [taken, State.takeReadChannel, s.outsideConfig_of_config _ config]
    rfl
  · rw [taken, State.takeReadChannel, s.outsideConfig_of_not _ out]
    split
    · rename_i inside
      have none : s.processor.channels[b.toNat]? = none := by
        rw [Vector.getElem?_eq_none_iff]
        omega
      rw [none]
      rfl
    · rfl
  · have number : (BitVec.ofNat 8 n.val).toNat = n.val := by
      rw [BitVec.toNat_ofNat]
      omega
    have entry : s.processor.channels[n.val]? = some s.processor.channels[n] := Vector.getElem?_eq_getElem n.isLt
    rw [taken, State.takeReadChannel, s.outsideConfig_of_not _ out, number, if_pos below, entry,
      State.answer_eq_withAnswer]
    dsimp only
    rw [ChannelEntry.bytes_eq, ChannelState.code_eq]
    rfl

end Sys2Proof.Proofs
end

section
/-! SUPPORT. START, RECALIBRATE, BREAK_NETWORK and SET_LAMP, unit by unit. -/

namespace Sys2Proof.Machine

/-! ## The mode and demand (R163, R169) -/

theorem clearTicks_eq (r : ConfigRecord) : clearTicks r = 800 * cfgClearPulse r := by
  simp only [clearTicks, ticksOfMicros]
  omega

/-- The mode is set and demand derived from it. -/
theorem State.setMode_eq (m : LampMode) (s : State) :
    s.setMode m = { s with
      indicator :=
        let i := { s.indicator with mode := m }
        let d := demandOf s.store.record m s.tracker.touches
        if d = s.indicator.demand then i else i.demandChanges s.store.record d } := by
  rw [State.setMode, State.deriveDemand_eq]

namespace Indicator

variable (r : ConfigRecord) (i : Indicator)

theorem demandChanges_of_dark (dark : i.phase = .dark) :
    i.demandChanges r true =
      { i with demand := true, phase := .preClear, clearTimer := some (800 * cfgClearPulse r) } := by
  simp [demandChanges, dark, enterPreClear, clearTicks_eq]

theorem demandChanges_of_clearing (d : Bool) (clearing : i.phase = .preClear ∨ i.phase = .postClear) :
    i.demandChanges r d = { i with demand := d } := by
  rcases clearing with phase | phase <;> simp [demandChanges, phase]

theorem demandChanges_of_pumping (d : Bool) (pumping : i.phase = .pumping) (stays : d = true ∨ i.elapsed = false) :
    i.demandChanges r d = { i with demand := d } := by
  rcases stays with rfl | running <;> simp [demandChanges, *]

theorem demandChanges_of_elapsed (pumping : i.phase = .pumping) (elapsed : i.elapsed = true) :
    i.demandChanges r false =
      { i with
        demand := false, phase := .postClear, clearTimer := some (800 * cfgClearPulse r), minPumpTimer := none
        pumpHigh := false, pumpPos := 0 } := by
  simp [demandChanges, pumping, elapsed, enterPostClear, clearTicks_eq]

end Indicator

theorem demandOf_follow_iff (r : ConfigRecord) (ts : List TouchRecord) :
    demandOf r .follow ts = true ↔ ∃ t ∈ ts, t.position / 8 = cfgAddress r := by
  simp [demandOf]

/-! ## Channels sent to calibrate (R126, R128, R132) -/

theorem calibrateWhere_isConfigured (r : ConfigRecord) (cs : Vector ChannelEntry 8) :
    calibrateWhere (isConfigured r) cs =
      Vector.ofFn fun n => if n.val < cfgChannelCount r then cs[n].calibrating else cs[n] := by
  simp only [calibrateWhere, isConfigured, decide_eq_true_eq]
  rfl

/-- Outside an operation a RECALIBRATE is applied at once (R127). -/
theorem Processor.recalibrate_of_idle (mask : Byte) (p : Processor) (idle : p.inFlight = none) :
    p.recalibrate mask = { p with
      channels := Vector.ofFn fun n => if mask.getLsbD n.val then p.channels[n].calibrating else p.channels[n] } := by
  unfold Processor.recalibrate
  split
  · rfl
  · simp_all

/-- During an operation a RECALIBRATE is marked for its end (R128). -/
theorem Processor.recalibrate_of_inFlight (mask : Byte) (p : Processor) (running : p.inFlight.isSome = true) :
    p.recalibrate mask = { p with pendingMask := p.pendingMask ||| mask } := by
  unfold Processor.recalibrate
  split
  · simp_all
  · rfl

theorem maskBeyondCount_iff (r : ConfigRecord) (mask : Byte) :
    maskBeyondCount r mask = true ↔ ∃ n : Fin 8, mask.getLsbD n.val = true ∧ cfgChannelCount r ≤ n.val := by
  simp only [maskBeyondCount, List.any_eq_true, mem_allChannels, true_and, isConfigured, Bool.and_eq_true,
    Bool.not_eq_true', decide_eq_false_iff_not, Nat.not_lt]

/-! ## BREAK_NETWORK (R19) -/

/-- The commanded break begins with the line low, from the station's own pull where it was high. -/
theorem Bus.beginBreakDrive_eq (b : Bus) :
    b.beginBreakDrive = { b with
      phase := .breakDrive
      pendingBreak := false
      roundTimer := none
      breakTimer := some 96000
      driveBreakSeen := false
      lineLow := true
      lowTicks := if b.lineLow then b.lowTicks else 0 } := by
  cases line : b.lineLow <;> simp [Bus.beginBreakDrive, Bus.lineFalls, breakDriveTicks, ticksOfMicros, line]

/-- A listener and a member take it by the pending flag and the phase. -/
theorem State.takeBreakNetwork_of_served (s : State)
    (served : s.agreement.membership = .listen ∨ s.agreement.membership = .member) :
    s.takeBreakNetwork =
      if s.bus.pendingBreak || s.bus.phase == .breakDrive then s.answer .busy []
      else if s.bus.phase = .idle then { s with bus := s.bus.beginBreakDrive }.answer .done []
      else { s with bus := { s.bus with pendingBreak := true } }.answer .done [] := by
  rcases served with membership | membership <;> rw [State.takeBreakNetwork, membership]

/-! ## START (R140) -/

/-- The first record after START stands alone in the queue. -/
theorem EventQueue.arrive_of_empty (q : EventQueue) (w : Stamp) (m : Membership) (empty : q.records = []) :
    q.arrive { stamp := w, event := .membership m } =
      { q with records := [{ stamp := w, event := .membership m }] } := by
  rw [EventQueue.arrive, EventQueue.append, empty]
  rfl

theorem Bus.start_eq (b : Bus) :
    b.start = { b.settlingFrom with
      stamp := 0, pendingBreak := false, lowTicks := 0, driveBreakSeen := false, stuckReported := false } := rfl

/-- A lamp that is off, with no touch, follows the mode code of the record that START takes. -/
theorem Indicator.started_eq (r : ConfigRecord) (i : Indicator) (dark : i.phase = .dark) (undemanded : i.demand = false)
    (code : cfgLampCode r ≤ 2) :
    (let m := (lampModeOf (cfgLampCode r)).getD .off
     let d := demandOf r m []
     if d = i.demand then { i with mode := m } else Indicator.demandChanges r d { i with mode := m }) =
      if cfgLampCode r = 2 then
        { i with mode := .on, demand := true, phase := .preClear, clearTimer := some (800 * cfgClearPulse r) }
      else { i with mode := if cfgLampCode r = 1 then .follow else .off } := by
  have codes : cfgLampCode r = 0 ∨ cfgLampCode r = 1 ∨ cfgLampCode r = 2 := by omega
  rcases codes with is | is | is
  · simp [is, lampModeOf, demandOf, undemanded]
  · simp [is, lampModeOf, demandOf, undemanded]
  · simp [is, lampModeOf, demandOf, undemanded, demandChanges, dark, enterPreClear, clearTicks_eq]

end Sys2Proof.Machine
end

section
/-! CLAIMS. The local port: START, RECALIBRATE, BREAK_NETWORK and SET_LAMP. -/

namespace Sys2Proof.Proofs

open Sys2Proof Sys2Proof.Machine

/-- Settles O18: a record that passes puts the units into service, each in the state that R140 gives it. -/
theorem startPutsTheStationIntoService : Obligations.StartPutsTheStationIntoService := by
  unfold Obligations.StartPutsTheStationIntoService
  intro s receiving config lamp inConfig passes
  have valid := (firstFailingField_eq_none_iff _).mpr passes
  have code : cfgLampCode s.store.record ≤ 2 := by
    have passes24 := passes 24
    rw [cfgLampCode_eq]
    simp only [FieldFails, Nat.reduceEqDiff, Nat.reduceLeDiff, false_and, and_false, true_and, false_or] at passes24
    omega
  obtain ⟨records, -⟩ := config.queue_empty inConfig
  obtain ⟨off, dark⟩ := config.lamp_off inConfig
  have undemanded : s.indicator.demand = false := by rw [lamp.demand_derived, off]; rfl
  have touches : s.tracker.touches = [] := by rw [config.tracker_reset inConfig]; rfl
  rw [exec_start_of_receiving s receiving, State.takeStart, if_pos inConfig, valid]
  dsimp only
  rw [State.startEffects, State.setMode_eq, Host.Outcome.next.injEq, State.mk.injEq]
  have processor : s.processor.start s.store.record = { s.processor with
      channels := Vector.ofFn fun n =>
        if n.val < cfgChannelCount s.store.record then s.processor.channels[n].calibrating else s.processor.channels[n]
      blanket := 0
      pendingMask := 0 } := by
    rw [Processor.start, calibrateWhere_isConfigured]
    rfl
  have indicator := Indicator.started_eq s.store.record s.indicator dark undemanded code
  rw [← touches] at indicator
  exact ⟨s.bus.start_eq, rfl, rfl, rfl, rfl, rfl, processor, rfl, rfl, s.queue.arrive_of_empty 0#16 .listen records,
    indicator, rfl, rfl, rfl⟩

/-- Settles O19: by membership, by the mask and by whether an operation is in flight. -/
theorem recalibrateNowOrAtTheOperationsEnd : Obligations.RecalibrateNowOrAtTheOperationsEnd := by
  unfold Obligations.RecalibrateNowOrAtTheOperationsEnd
  intro mask s receiving
  have taken : exec (.recalibrate mask) s = .next (s.takeRecalibrate mask) :=
    exec_of_receiving (take := State.takeRecalibrate mask) rfl receiving
  have within (below : ∀ n : Fin 8, mask.getLsbD n.val = true → n.val < cfgChannelCount s.store.record) :
      ¬ maskBeyondCount s.store.record mask = true := by
    rw [maskBeyondCount_iff]
    rintro ⟨n, marked, beyond⟩
    exact absurd (below n marked) (Nat.not_lt.mpr beyond)
  rw [taken, State.takeRecalibrate]
  refine ⟨fun config => ?_, fun out beyond => ?_, fun out below idle => ?_, fun out below running => ?_⟩
  · rw [s.outsideConfig_of_config _ config]
    rfl
  · rw [s.outsideConfig_of_not _ out, if_pos ((maskBeyondCount_iff _ _).mpr beyond)]
    rfl
  · rw [s.outsideConfig_of_not _ out, if_neg (within below), Processor.recalibrate_of_idle mask _ idle]
    rfl
  · rw [s.outsideConfig_of_not _ out, if_neg (within below), Processor.recalibrate_of_inFlight mask _ running]
    rfl

/-- Settles O20: by membership, by the pending flag and by the phase. -/
theorem breakNetworkByMembershipAndPhase : Obligations.BreakNetworkByMembershipAndPhase := by
  unfold Obligations.BreakNetworkByMembershipAndPhase
  intro s receiving
  have taken : exec .breakNetwork s = .next s.takeBreakNetwork :=
    exec_of_receiving (take := State.takeBreakNetwork) rfl receiving
  rw [taken]
  refine ⟨fun refused => ?_, fun served => ?_⟩
  · rcases refused with membership | membership <;> rw [State.takeBreakNetwork, membership] <;> rfl
  rw [s.takeBreakNetwork_of_served served]
  refine ⟨fun busy => ?_, fun free idle => ?_, fun free other undriven => ?_⟩
  · rw [if_pos (by simpa using busy)]
    rfl
  · rw [if_neg (by simp [free, idle]), if_pos idle, Bus.beginBreakDrive_eq, ← free]
    rfl
  · rw [if_neg (by simp [free, undriven]), if_neg other]
    rfl

/-- Settles O21: the answers by membership, byte and mode; demand by mode, and its changes by phase. -/
theorem setLampSetsTheMode : Obligations.SetLampSetsTheMode := by
  unfold Obligations.SetLampSetsTheMode
  refine ⟨fun s receiving => ?_, fun r i => ?_, fun r ts => ⟨rfl, rfl, demandOf_follow_iff r ts⟩⟩
  · have taken (b : Byte) : exec (.setLamp b) s = .next (s.takeSetLamp b) :=
      exec_of_receiving (take := State.takeSetLamp b) rfl receiving
    refine ⟨fun b config => ?_, fun out => ⟨fun b beyond => ?_, fun b m named => ?_⟩⟩
    · rw [taken, State.takeSetLamp, s.outsideConfig_of_config _ config]
      rfl
    · rw [taken, State.takeSetLamp, s.outsideConfig_of_not _ out, (lampModeOf_eq_none_iff b.toNat).mpr beyond]
      rfl
    · have mode : lampModeOf b.toNat = some m := by
        rcases named with ⟨rfl, rfl⟩ | ⟨rfl, rfl⟩ | ⟨rfl, rfl⟩ <;> rfl
      rw [taken, State.takeSetLamp, s.outsideConfig_of_not _ out, mode]
      refine ⟨fun same => ?_, fun other => ?_⟩
      · dsimp only
        rw [if_pos same.symm]
        rfl
      · dsimp only
        rw [if_neg (Ne.symm other), State.setMode_eq]
        rfl
  · exact ⟨i.demandChanges_of_dark r, i.demandChanges_of_clearing r,
      fun pumping => i.demandChanges_of_pumping r true pumping (.inl rfl),
      fun pumping running => i.demandChanges_of_pumping r false pumping (.inr running), i.demandChanges_of_elapsed r⟩

end Sys2Proof.Proofs
end

section
/-! CLAIMS. What is no event: unknown bytes, rows outside RECEIVING, and the events of what is not there. -/

namespace Sys2Proof.Proofs

open Sys2Proof Sys2Proof.Machine

/-- A guarded arm whose guard fails leaves the station as it is. -/
theorem next_ite_of_not {p : Prop} [Decidable p] {s t : State} (not : ¬ p) :
    (.next (if p then t else s) : Host.Outcome State Fault Refusal) = .next s := congrArg Host.Outcome.next (if_neg not)

/-- Settles O22: the byte by the list of codes, and each event by the guard of its arm. -/
theorem unknownCommandsAndEventsThatCannotOccur : Obligations.UnknownCommandsAndEventsThatCannotOccur := by
  unfold Obligations.UnknownCommandsAndEventsThatCannotOccur
  have unknown (code : Byte) (s : State) :
      exec (.unknownCommand code) s = .next (if namesCommand code then s else s.whenReceiving State.takeUnknown) := rfl
  refine ⟨fun code s receiving free => ?_, fun code s names => ?_, fun c s other => ?_, fun s => ?_⟩
  · rw [unknown, if_neg (by rwa [namesCommand_eq_true_iff]), s.whenReceiving_of_receiving _ receiving]
    rfl
  · rw [unknown, if_pos ((namesCommand_eq_true_iff code).mpr names)]
  · have waits (take : State → State) : s.whenReceiving take = s := s.whenReceiving_of_not take other
    cases c with
    | unknown code => rw [rowOf, unknown, waits, ite_self]
    | _ => exact congrArg Host.Outcome.next (waits _)
  · refine ⟨fun idle => ?_, fun stopped => ?_, fun gap => ?_, fun slot => ?_, fun stopped => ?_, fun settling => ?_,
      fun o drive => ?_, fun notLow => ?_, fun notLow => ?_, fun notLow => ?_, fun n k count => ?_, fun none => ?_,
      fun phase => ?_, fun phase => ?_, fun phase => ?_, fun phase => ?_, fun phase => ?_⟩
    · exact next_ite_of_not (by rintro ⟨is, runs⟩; rcases idle with h | h <;> simp_all)
    · exact next_ite_of_not (by simp [stopped])
    · exact next_ite_of_not (by rintro ⟨is, runs⟩; rcases gap with h | h <;> simp_all)
    · exact next_ite_of_not (by rintro ⟨is, runs⟩; rcases slot with h | h <;> simp_all)
    · have same : { s.bus with strobeTimer := none } = s.bus := by rw [← stopped]
      exact congrArg (fun b => Host.Outcome.next { s with bus := b }) same
    · exact next_ite_of_not (by rintro ⟨is, runs⟩; rcases settling with h | h <;> simp_all)
    · exact next_ite_of_not (by rintro ⟨is, runs⟩; rcases drive with h | h <;> simp_all)
    · exact next_ite_of_not (by rintro ⟨is, runs⟩; rcases notLow with h | h <;> simp_all)
    · exact next_ite_of_not (by
        rintro ⟨low, applies⟩
        rw [Bus.breakApplies_iff] at applies
        rcases notLow with h | h | h | h | ⟨h, seen⟩ <;> simp_all)
    · exact next_ite_of_not (by rintro ⟨is, runs⟩; rcases notLow with h | h <;> simp_all)
    · exact next_ite_of_not (by
        rintro ⟨counting, configured⟩
        rw [isConfigured, decide_eq_true_eq] at configured
        rcases count with h | h
        · simp [h] at counting
        · omega)
    · have ends : s.completeOperation = s := by rw [State.completeOperation, none]
      exact congrArg Host.Outcome.next ends
    · exact next_ite_of_not phase
    · exact next_ite_of_not phase
    · exact next_ite_of_not (by rintro ⟨is, runs⟩; rcases phase with h | h <;> simp_all)
    · exact next_ite_of_not (by rintro ⟨is, runs⟩; rcases phase with h | h <;> simp_all)
    · exact next_ite_of_not phase

end Sys2Proof.Proofs
end

section
/-! SUPPORT. A fall of SYNC, phase by phase (R3, R9, R22). -/

namespace Sys2Proof.Machine

/-- A fall of a high line (R1). -/
theorem exec_syncFall_of_high (s : State) (high : s.bus.lineLow = false) : exec .syncFall s = .next s.fall :=
  congrArg Host.Outcome.next (s.pull_of_high high)

namespace State

variable (s : State)

theorem fall_of_idle (idle : s.bus.phase = .idle) : s.fall = openWindow { s with bus := s.bus.lineFalls } := by
  have phase : s.bus.lineFalls.phase = .idle := idle
  simp only [fall, phase]

theorem fall_of_gap (gap : s.bus.phase = .gap) :
    s.fall = openSlot { s with bus := { s.bus.lineFalls with phase := .quiet, slotIndex := 0 } } := by
  have phase : s.bus.lineFalls.phase = .gap := gap
  simp only [fall, phase]

theorem fall_of_settling (settling : s.bus.phase = .settling) :
    s.fall = { s with bus := { s.bus.lineFalls with settleTimer := none } } := by
  have phase : s.bus.lineFalls.phase = .settling := settling
  simp only [fall, phase]

theorem fall_of_outside (outside : s.bus.phase = .off ∨ s.bus.phase = .window ∨ s.bus.phase = .brk ∨
    s.bus.phase = .breakDrive) : s.fall = { s with bus := s.bus.lineFalls } := by
  rcases outside with h | h | h | h <;>
    · have phase : s.bus.lineFalls.phase = _ := h
      simp only [fall, phase]

/-! ### The drive that a slot's owner elects -/

/-- A slot opens, and its owner elects a drive. -/
theorem fall_eq_electDrive (slot : s.bus.phase.isSlot = true) : s.fall = (s.slotOpened s.bus.datDrive).electDrive :=
  s.fall_of_isSlot slot

theorem fall_of_presence (phase : s.bus.phase = .presence) :
    s.fall = s.slotOpened (s.drivesPresence (s.bus.slotIndex - 1)) := by
  rw [s.fall_eq_electDrive (by rw [phase]; rfl)]
  simp only [electDrive, slotOpened, phase]
  rfl

theorem fall_of_claim (phase : s.bus.phase = .claim) :
    s.fall = { s.slotOpened s.bidNow.isSome with contest :=
      { s.contest with bidding := s.bidNow.isSome, bid := s.bidNow, lost := false, assembly := [] } } := by
  rw [s.fall_eq_electDrive (by rw [phase]; rfl)]
  simp only [electDrive, slotOpened, phase]
  rfl

theorem fall_of_bid (phase : s.bus.phase = .bid) :
    s.fall = s.slotOpened (s.contest.inContest && s.contest.bidBit s.bus.bitIndex) := by
  rw [s.fall_eq_electDrive (by rw [phase]; rfl)]
  simp only [electDrive, slotOpened, phase]

theorem fall_of_firstDigest (phase : s.bus.phase = .digestA) (first : s.bus.bitIndex = 0) :
    s.fall = { s.slotOpened ((s.agreement.latchDigest s.tracker.digest).drives false 0) with
      agreement := s.agreement.latchDigest s.tracker.digest } := by
  rw [s.fall_eq_electDrive (by rw [phase]; rfl)]
  simp only [electDrive, slotOpened, phase, first, if_true]

theorem fall_of_digestA (phase : s.bus.phase = .digestA) (later : s.bus.bitIndex ≠ 0) :
    s.fall = s.slotOpened (s.agreement.drives false s.bus.bitIndex) := by
  rw [s.fall_eq_electDrive (by rw [phase]; rfl)]
  simp only [electDrive, slotOpened, phase, if_neg later]

theorem fall_of_digestB (phase : s.bus.phase = .digestB) :
    s.fall = s.slotOpened (s.agreement.drives true s.bus.bitIndex) := by
  rw [s.fall_eq_electDrive (by rw [phase]; rfl)]
  simp only [electDrive, slotOpened, phase]

end State

/-! ### Who is a candidate, and what a member bids (R27) -/

theorem State.isCandidate_iff (s : State) (n : Fin 8) :
    s.isCandidate n = true ↔
      (s.processor.channels[n].state = .touched ∨ s.processor.channels[n].state = .pendingRelease) ∧
        s.contest.won[n] = false ∧ s.contest.suppressed[n] = false := by
  simp [State.isCandidate, ChannelEntry.eligible, and_assoc]

theorem State.bidNow_of_strongest (s : State) (n : Fin 8) (member : s.agreement.membership = .member)
    (candidate : s.isCandidate n = true)
    (strongest : ∀ m, s.isCandidate m = true → s.processor.channels[m].strength < s.processor.channels[n].strength ∨
      (s.processor.channels[m].strength = s.processor.channels[n].strength ∧ m ≤ n)) :
    s.bidNow = some { channel := n, value := 256 * s.processor.channels[n].strength
                                      + 8 * cfgAddress s.store.record + n.val } := by
  rw [State.bidNow, if_pos member, s.strongestCandidate_eq_some n candidate strongest, Option.map_some, State.bidFor,
    bidValue, positionOf, Nat.add_assoc]

theorem State.bidNow_of_none (s : State) (none : s.agreement.membership = .member → ∀ n, s.isCandidate n = false) :
    s.bidNow = .none := by
  rw [State.bidNow]
  split
  · rename_i member
    rw [s.strongestCandidate_eq_none (none member)]
    rfl
  · rfl

/-! ### What a unit drives in a digest slot (R71) -/

theorem Agreement.drives_latchDigest (d : BitVec 16) (a : Agreement) :
    (a.latchDigest d).drives false 0 =
      match a.membership with
      | .member => d.getMsbD 0
      | .listen => a.forcing
      | .config | .conflict => false := by
  cases membership : a.membership <;> cases forcing : a.forcing <;>
    simp [Agreement.drives, Agreement.latchDigest, Agreement.decidePart, Agreement.digestBit, membership, forcing]

/-- The part is latched with the digest, by membership and forcing flag. -/
theorem Agreement.latchDigest_eq (d : BitVec 16) (a : Agreement) :
    a.latchDigest d = { a with
      latched := some d
      part := some (match a.membership with
        | .member => .member
        | .listen => if a.forcing then .forcing else .listener
        | .config | .conflict => .silent) } := by
  cases membership : a.membership <;> simp only [Agreement.latchDigest, Agreement.decidePart, membership]

theorem Agreement.drives_of_member {a : Agreement} {d : BitVec 16} (part : a.part = some .member)
    (latched : a.latched = some d) (complement : Bool) (i : Nat) :
    a.drives complement i = (d.getMsbD i != complement) := by
  simp [Agreement.drives, Agreement.digestBit, part, latched]

theorem Agreement.drives_of_forcing {a : Agreement} (part : a.part = some .forcing) (complement : Bool) (i : Nat) :
    a.drives complement i = true := by
  simp [Agreement.drives, part]

theorem Agreement.drives_of_silent {a : Agreement}
    (part : a.part = some .listener ∨ a.part = some .silent ∨ a.part = none) (complement : Bool) (i : Nat) :
    a.drives complement i = false := by
  rcases part with part | part | part <;> simp [Agreement.drives, part]

end Sys2Proof.Machine
end

section
/-! CLAIMS. Falls of SYNC: windows and slots. -/

namespace Sys2Proof.Proofs

open Sys2Proof Sys2Proof.Machine

/-- Settles O23: a fall in IDLE. -/
theorem fallOpensAWindow : Obligations.FallOpensAWindow := by
  unfold Obligations.FallOpensAWindow
  intro s high idle
  rw [exec_syncFall_of_high s high, s.fall_of_idle idle]
  rfl

/-- Settles O24: the drive of each slot is its owner's election. -/
theorem fallOpensASlot : Obligations.FallOpensASlot := by
  unfold Obligations.FallOpensASlot
  refine ⟨fun s high gap => ?_, fun s high phase from1 => ?_, fun s high phase =>
    ⟨fun b bidding stays bid => ?_, fun out => ?_⟩⟩
  · rw [exec_syncFall_of_high s high, s.fall_of_gap gap]
    rfl
  · have own : (s.bus.slotIndex - 1 == cfgAddress s.store.record) =
        decide (s.bus.slotIndex = 1 + cfgAddress s.store.record) := by
      rw [Bool.beq_eq_decide_eq, decide_eq_decide]
      omega
    rw [exec_syncFall_of_high s high, s.fall_of_presence phase, State.drivesPresence, own]
    rfl
  · rw [exec_syncFall_of_high s high, s.fall_of_bid phase, Contest.inContest, Contest.bidBit, bidding, stays, bid]
    rfl
  · have outside : s.contest.inContest = false := by rcases out with h | h <;> simp [Contest.inContest, h]
    rw [exec_syncFall_of_high s high, s.fall_of_bid phase, outside]
    rfl

/-- Settles O25: a member's bid is that of its strongest candidate. -/
theorem fallOpensAClaimSlot : Obligations.FallOpensAClaimSlot := by
  unfold Obligations.FallOpensAClaimSlot
  intro s high phase candidate
  rw [exec_syncFall_of_high s high, s.fall_of_claim phase]
  refine ⟨fun n member isCandidate strongest => ?_, fun none => ?_⟩
  · have bid := s.bidNow_of_strongest n member ((s.isCandidate_iff n).mpr isCandidate)
      fun m isCandidate => strongest m ((s.isCandidate_iff m).mp isCandidate)
    rw [bid]
    rfl
  · have bid := s.bidNow_of_none fun member n => by
      rw [← Bool.not_eq_true, s.isCandidate_iff n]
      exact none member n
    rw [bid]
    rfl

/-- Settles O26: the part decides the drive, at the first fall as it is latched. -/
theorem fallOpensADigestSlot : Obligations.FallOpensADigestSlot := by
  unfold Obligations.FallOpensADigestSlot
  intro s high
  rw [exec_syncFall_of_high s high]
  refine ⟨fun phase first => ?_, fun d part latched => ⟨fun phase later => ?_, fun phase => ?_⟩,
    fun phase => ⟨fun part => ?_, fun part => ?_⟩⟩
  · have opens := s.fall_of_firstDigest phase first
    rw [Agreement.drives_latchDigest, Agreement.latchDigest_eq] at opens
    exact congrArg Host.Outcome.next opens
  · rw [s.fall_of_digestA phase later, Agreement.drives_of_member part latched, Bool.bne_false]
  · rw [s.fall_of_digestB phase, Agreement.drives_of_member part latched, Bool.bne_true]
  · rcases phase with ⟨phase, later⟩ | phase
    · rw [s.fall_of_digestA phase later, Agreement.drives_of_forcing part]
    · rw [s.fall_of_digestB phase, Agreement.drives_of_forcing part]
  · rcases phase with ⟨phase, later⟩ | phase
    · rw [s.fall_of_digestA phase later, Agreement.drives_of_silent part]
    · rw [s.fall_of_digestB phase, Agreement.drives_of_silent part]

/-- Settles O27: a fall takes nothing from the timer that it stops, so that stopping it first leaves no trace. -/
theorem ownTimersPullLikeAFall : Obligations.OwnTimersPullLikeAFall := by
  unfold Obligations.OwnTimersPullLikeAFall
  intro s
  refine ⟨fun idle runs => ⟨fun high => ?_, fun low => ?_⟩, fun gap runs => ⟨fun high => ?_, fun low => ?_⟩,
    fun slot runs => ⟨fun high => ?_, fun low => ?_⟩⟩
  · refine ⟨s.fall, ?_, exec_syncFall_of_high s high⟩
    refine congrArg Host.Outcome.next ((if_pos ⟨idle, runs⟩).trans ?_)
    rw [State.pull_of_high { s with bus := { s.bus with roundTimer := none } } high, s.fall_of_idle idle,
      State.fall_of_idle { s with bus := { s.bus with roundTimer := none } } idle]
    rfl
  · refine congrArg Host.Outcome.next ((if_pos ⟨idle, runs⟩).trans ?_)
    exact State.pull_of_low { s with bus := { s.bus with roundTimer := none } } low
  · refine ⟨s.fall, ?_, exec_syncFall_of_high s high⟩
    refine congrArg Host.Outcome.next ((if_pos ⟨gap, runs⟩).trans ?_)
    rw [State.pull_of_high { s with bus := { s.bus with gapTimer := none } } high, s.fall_of_gap gap,
      State.fall_of_gap { s with bus := { s.bus with gapTimer := none } } gap]
    rfl
  · refine congrArg Host.Outcome.next ((if_pos ⟨gap, runs⟩).trans ?_)
    exact State.pull_of_low { s with bus := { s.bus with gapTimer := none } } low
  · refine ⟨s.fall, ?_, exec_syncFall_of_high s high⟩
    refine congrArg Host.Outcome.next ((if_pos ⟨slot, runs⟩).trans ?_)
    rw [State.pull_of_high { s with bus := { s.bus with slotTimer := none } } high, s.fall_of_isSlot slot,
      State.fall_of_isSlot { s with bus := { s.bus with slotTimer := none } } slot]
    rfl
  · refine congrArg Host.Outcome.next ((if_pos ⟨slot, runs⟩).trans ?_)
    exact State.pull_of_low { s with bus := { s.bus with slotTimer := none } } low

end Sys2Proof.Proofs
end

section
/-! SUPPORT. A rise of SYNC at which no limit of the low is due. -/

namespace Sys2Proof.Machine

/-- `b` after a rise that ends a low of at least `low` ticks (R1, R18). -/
def Bus.risen (low : Nat) (b : Bus) : Bus :=
  { b with lineLow := false, lowTicks := max b.lowTicks low, stuckReported := false, driveBreakSeen := false }

/-- `b` has met no limit of its low (R14, R16, R18). -/
structure Bus.WithinLimits (b : Bus) : Prop where
  strobe : b.phase.isSlot = true → b.lowTicks < 160
  brk : b.breakApplies = true → b.lowTicks < 64000
  stuck : b.phase = .off ∨ b.stuckReported = true ∨ b.lowTicks < 400000

theorem State.takeLowLimits_of_within (s : State) (within : s.bus.WithinLimits) : s.takeLowLimits = s := by
  obtain ⟨strobe, brk, stuck⟩ := within
  refine s.takeLowLimits_of_not_due ?_ ?_ ?_ <;> rw [← Bool.not_eq_true]
  · rw [State.longLowDue_iff]
    rintro ⟨-, slot, reached⟩
    have := strobe slot
    omega
  · rw [State.breakDue_iff]
    rintro ⟨-, applies, reached⟩
    have := brk applies
    omega
  · rw [State.stuckDue_iff]
    rintro ⟨-, on, unreported, reached⟩
    rcases stuck with off | reported | short
    · exact on off
    · simp [unreported] at reported
    · omega

/-- Outside the slots there is no strobe limit. -/
theorem Bus.WithinLimits.of_not_slot {b : Bus} (slot : b.phase.isSlot = false)
    (brk : b.breakApplies = true → b.lowTicks < 64000)
    (stuck : b.phase = .off ∨ b.stuckReported = true ∨ b.lowTicks < 400000) : b.WithinLimits :=
  ⟨fun is => absurd is (by simp [slot]), brk, stuck⟩

/-- In OFF, and between windows and slots, a rise moves the line alone. -/
theorem State.riseInPhase_of_idle (dat : Bool) (s : State)
    (phase : s.bus.phase = .off ∨ s.bus.phase = .idle ∨ s.bus.phase = .gap ∨ s.bus.phase = .breakDrive) :
    s.riseInPhase dat = s := by
  rcases phase with h | h | h | h <;> rw [State.riseInPhase, h]

theorem State.riseInPhase_of_settling (dat : Bool) (s : State) (settling : s.bus.phase = .settling) :
    s.riseInPhase dat = { s with bus := { s.bus with settleTimer := some 800 } } := by
  rw [State.riseInPhase, settling]
  rfl

theorem State.riseInPhase_of_brk (dat : Bool) (s : State) (brk : s.bus.phase = .brk) : s.riseInPhase dat = s.endBreak := by
  rw [State.riseInPhase, brk]

theorem State.riseInPhase_of_window (dat : Bool) (s : State) (window : s.bus.phase = .window) :
    s.riseInPhase dat = s.closeWindow := by
  rw [State.riseInPhase, window]

/-- A rise of a low line (R1). -/
theorem exec_syncRise_of_low (low : Nat) (dat : Bool) (s : State) (isLow : s.bus.lineLow = true) :
    exec (.syncRise low dat) s = .next (s.rise low dat) := congrArg Host.Outcome.next (if_pos isLow)

/-- Within the limits a rise has its phase's effect alone. -/
theorem exec_syncRise_of_within (low : Nat) (dat : Bool) (s : State) (isLow : s.bus.lineLow = true)
    (within : (s.bus.lowAtLeast low).WithinLimits) :
    exec (.syncRise low dat) s = .next (State.riseInPhase dat { s with bus := s.bus.risen low }) := by
  rw [exec_syncRise_of_low low dat s isLow, State.rise, State.takeLowLimits_of_within _ within]
  rfl

end Sys2Proof.Machine
end

section
/-! CLAIMS. Changes of the line that open and close nothing. -/

namespace Sys2Proof.Proofs

open Sys2Proof Sys2Proof.Machine

/-- Settles O28: by the phase, with the limits of the low not reached. -/
theorem lineChangesWithoutARound : Obligations.LineChangesWithoutARound := by
  unfold Obligations.LineChangesWithoutARound
  intro s
  refine ⟨fun high outside => ?_, fun high settling => ?_, fun low => ?_, fun low dat isLow off => ?_,
    fun low dat isLow between => ?_, fun low dat isLow settling short => ?_, fun low dat high => ?_⟩
  · rw [exec_syncFall_of_high s high, s.fall_of_outside outside]
    rfl
  · rw [exec_syncFall_of_high s high, s.fall_of_settling settling]
    rfl
  · exact congrArg Host.Outcome.next (s.pull_of_low low)
  · have within : (s.bus.lowAtLeast low).WithinLimits :=
      .of_not_slot (by simp [Bus.lowAtLeast, off, Phase.isSlot]) (by simp [Bus.lowAtLeast, Bus.breakApplies, off]) (.inl off)
    rw [exec_syncRise_of_within low dat s isLow within,
      State.riseInPhase_of_idle dat { s with bus := s.bus.risen low } (.inl off)]
    rfl
  · have phase : s.bus.phase = .idle ∨ s.bus.phase = .gap ∨ s.bus.phase = .breakDrive := by
      rcases between with ⟨phase, -⟩ | ⟨drive, -⟩
      · exact phase
      · exact .inr (.inr drive)
    have within : (s.bus.lowAtLeast low).WithinLimits := by
      refine .of_not_slot ?_ ?_ ?_
      · rcases phase with h | h | h <;> simp [Bus.lowAtLeast, h, Phase.isSlot]
      · rcases between with ⟨-, short⟩ | ⟨drive, seen, -⟩
        · exact fun _ => short
        · simp [Bus.lowAtLeast, Bus.breakApplies, drive, seen]
      · rcases between with ⟨-, short⟩ | ⟨-, -, short | reported⟩
        · exact .inr (.inr (lt_trans short (by decide)))
        · exact .inr (.inr short)
        · exact .inr (.inl reported)
    rw [exec_syncRise_of_within low dat s isLow within,
      State.riseInPhase_of_idle dat { s with bus := s.bus.risen low } (.inr phase)]
    rfl
  · have within : (s.bus.lowAtLeast low).WithinLimits :=
      .of_not_slot (by simp [Bus.lowAtLeast, settling, Phase.isSlot])
        (by simp [Bus.lowAtLeast, Bus.breakApplies, settling]) (.inr short.symm)
    rw [exec_syncRise_of_within low dat s isLow within,
      State.riseInPhase_of_settling dat { s with bus := s.bus.risen low } settling]
    rfl
  · exact congrArg Host.Outcome.next (if_neg (by simp [high]))

end Sys2Proof.Proofs
end

section
/-! SUPPORT. Lows that last: the long low, the break and its end, the stuck report (R14, R16 to R18, R20). -/

namespace Sys2Proof.Machine

/-- What a detected break leaves of the other blocks. -/
theorem State.detectBreak_eq (s : State) :
    s.detectBreak =
      { (s.withTracking (if s.agreement.membership = .member then s.clearTouches .brk else s)).withoutItems with
        contest := Contest.empty
        frontEnd := { s.frontEnd with counting := false }
        bus := { s.bus with
          phase := if s.bus.phase = .breakDrive then .breakDrive else .brk
          driveBreakSeen := decide (s.bus.phase = .breakDrive)
          slotIndex := 0
          contestCount := 0
          bitIndex := 0
          lowTicks := max s.bus.lowTicks 64000
          roundTimer := none
          holdTimer := none
          gapTimer := none
          slotTimer := none
          strobeTimer := none
          datDrive := false } } := by
  unfold State.detectBreak
  by_cases member : s.agreement.membership = .member
  · have still : s.agreement.discardItems.membership = .member := member
    dsimp only
    rw [if_pos still, if_pos member, State.clearTouches_eq, State.clearTouches_eq]
    rfl
  · have still : ¬ s.agreement.discardItems.membership = .member := member
    dsimp only
    rw [if_neg still, if_neg member]
    rfl

/-- The end of a break: SETTLING, and a listener becomes a member after a clear (R17, R84). -/
theorem State.endBreak_eq (s : State) :
    s.endBreak =
      if s.agreement.membership = .listen then
        (((({ s with bus := s.bus.enterSettling }.withoutItems).withTracking (s.clearTouches .brk)).withRecord
          (.membership .member)).withMembership .member)
      else ({ s with bus := s.bus.enterSettling }.withoutItems).withMembership s.agreement.membership := by
  unfold State.endBreak State.breakEndMembership
  dsimp only
  split
  · rename_i listen
    have listens : s.agreement.membership = .listen := listen
    rw [if_pos listens, State.clearTouches_eq, State.clearTouches_eq]
    rfl
  all_goals
    rename_i other
    have notListen : ¬ s.agreement.membership = .listen := by
      have is : s.agreement.membership = _ := other
      simp [is]
    rw [if_neg notListen]
    rfl

/-- A break that ends with the line moved: the clear is that of the state before it. -/
theorem State.endBreak_of_bus (s : State) (b : Bus) (stamp : b.stamp = s.bus.stamp) :
    State.endBreak { s with bus := b } =
      let t := State.withoutItems { s with bus := b.enterSettling }
      if s.agreement.membership = .listen then
        ((t.withTracking (s.clearTouches .brk)).withRecord (.membership .member)).withMembership .member
      else t.withMembership s.agreement.membership := by
  have tracks (u : State) :
      u.withTracking (State.clearTouches .brk { s with bus := b }) = u.withTracking (s.clearTouches .brk) := by
    rw [State.clearTouches_eq, State.clearTouches_eq]
    simp only [State.withTracking, stamp]
  rw [State.endBreak_eq, tracks]

/-! ## Between rounds (R7, R8, R19, R24) -/

theorem roundTicks_eq (r : ConfigRecord) : roundTicks r = 8000 * cfgPeriod r + 800 * cfgAddress r := by
  simp only [roundTicks, ticksOfMicros]
  omega

/-- IDLE with its round timer, or the pending break. -/
theorem Bus.enterIdle_eq (r : ConfigRecord) (b : Bus) : b.enterIdle r = b.betweenRounds r := by
  cases pending : b.pendingBreak with
  | false =>
    simp only [b.enterIdle_of_not_pending r pending, Bus.betweenRounds, pending, roundTicks_eq, Bool.false_eq_true, if_false]
  | true =>
    simp only [Bus.enterIdle, Bus.clearIndices, pending, if_true, Bus.beginBreakDrive_eq, Bus.betweenRounds]

/-! ## The measured low -/

/-- `s` with its present low measured as at least `n` ticks. -/
def State.low (n : Nat) (s : State) : State := { s with bus := s.bus.lowAtLeast n }

/-- `s` with another timer of the window hold. -/
def State.holding (t : Timer) (s : State) : State := { s with bus := { s.bus with holdTimer := t } }

namespace State

variable (s : State)

@[simp] theorem lowTicks_low (n : Nat) : (s.low n).bus.lowTicks = max s.bus.lowTicks n := rfl

@[simp] theorem phase_low (n : Nat) : (s.low n).bus.phase = s.bus.phase := rfl

@[simp] theorem lineLow_low (n : Nat) : (s.low n).bus.lineLow = s.bus.lineLow := rfl

@[simp] theorem breakApplies_low (n : Nat) : (s.low n).bus.breakApplies = s.bus.breakApplies := rfl

@[simp] theorem stuckReported_low (n : Nat) : (s.low n).bus.stuckReported = s.bus.stuckReported := rfl

theorem low_congr {m n : Nat} (same : max s.bus.lowTicks m = max s.bus.lowTicks n) : s.low m = s.low n := by
  rw [low, low, Bus.lowAtLeast, Bus.lowAtLeast, same]

theorem low_low (m n : Nat) : (s.low m).low n = s.low (max m n) := by
  simp only [low, Bus.lowAtLeast, max_assoc]

theorem reportStuck_low (n : Nat) : (s.low n).reportStuck = s.reportStuck.low n := rfl

/-- A break that is detected leaves nothing of the window hold, and of the measured low what it raises it to. -/
theorem detectBreak_of_lowTicks (k : Nat) (t : Timer) :
    detectBreak { s with bus := { s.bus with lowTicks := k, holdTimer := t } } =
      { s.detectBreak with bus := { s.detectBreak.bus with lowTicks := max k 64000 } } := by
  rw [detectBreak_eq, detectBreak_eq]
  by_cases member : s.agreement.membership = .member
  · simp only [member, if_true, clearTouches_eq]
    rfl
  · simp only [member, if_false]
    rfl

theorem detectBreak_low (n : Nat) : (s.low n).detectBreak = s.detectBreak.low n := by
  have raised : s.detectBreak.bus.lowTicks = max s.bus.lowTicks 64000 := by
    rw [bus_detectBreak]
    rfl
  have changed := s.detectBreak_of_lowTicks (max s.bus.lowTicks n) s.bus.holdTimer
  rw [max_right_comm, ← raised] at changed
  exact changed

theorem detectBreak_holding (t : Timer) : (s.holding t).detectBreak = s.detectBreak := by
  have raised : s.detectBreak.bus.lowTicks = max s.bus.lowTicks 64000 := by
    rw [bus_detectBreak]
    rfl
  have changed := s.detectBreak_of_lowTicks s.bus.lowTicks t
  rw [← raised] at changed
  exact changed

/-- An abandonment at a longer low is the same but for the rest of the hold. -/
theorem abandonRound_low (n : Nat) : ∃ t, (s.low n).abandonRound = (s.abandonRound.low n).holding t := by
  have raised : s.abandonRound.bus.lowTicks = max s.bus.lowTicks strobeLimit := rfl
  have changed : (s.low n).abandonRound =
      { s.abandonRound with bus := { s.abandonRound.bus with
        lowTicks := max (max s.bus.lowTicks n) strobeLimit, holdTimer := (s.low n).abandonRound.bus.holdTimer } } := rfl
  rw [max_right_comm, ← raised] at changed
  exact ⟨_, changed⟩

/-! ## The limits taken one by one -/

theorem takeLowLimits_of_longLowDue (due : s.longLowDue = true) : s.takeLowLimits = s.abandonRound.takeLowLimits := by
  have spent : ¬ s.abandonRound.longLowDue = true := by
    rw [longLowDue_iff]
    rintro ⟨-, slot, -⟩
    cases slot
  simp only [takeLowLimits, if_pos due, if_neg spent]

theorem takeLowLimits_of_breakDue (slot : s.bus.phase.isSlot = false) (due : s.breakDue = true) :
    s.takeLowLimits = s.detectBreak.takeLowLimits := by
  have noSlot : ¬ s.longLowDue = true := by
    rw [longLowDue_iff]
    rintro ⟨-, is, -⟩
    simp [slot] at is
  have stillNoSlot : ¬ s.detectBreak.longLowDue = true := by
    rw [longLowDue_iff, phase_detectBreak]
    rintro ⟨-, is, -⟩
    split at is <;> cases is
  have spent : ¬ s.detectBreak.breakDue = true := by simp [breakDue_detectBreak]
  simp only [takeLowLimits, if_neg noSlot, if_pos due, if_neg stillNoSlot, if_neg spent]

theorem takeLowLimits_of_spent (slot : s.bus.phase.isSlot = false) (brk : s.bus.breakApplies = false) :
    s.takeLowLimits = if s.stuckDue then s.reportStuck else s := by
  have noSlot : ¬ s.longLowDue = true := by
    rw [longLowDue_iff]
    rintro ⟨-, is, -⟩
    simp [slot] at is
  have noBreak : ¬ s.breakDue = true := by
    rw [breakDue_iff]
    rintro ⟨-, applies, -⟩
    simp [brk] at applies
  simp only [takeLowLimits, if_neg noSlot, if_neg noBreak]

/-- In a slot the abandonment comes first; what is left differs at most in the rest of the hold of a window whose low has met
no further limit. -/
theorem takeLowLimits_after_abandonRound (n : Nat) (isLow : s.bus.lineLow = true) (slot : s.bus.phase.isSlot = true)
    (reached : 160 ≤ max s.bus.lowTicks n) :
    (s.abandonRound.low n).takeLowLimits = (s.low n).takeLowLimits ∨
      ((s.low n).bus.lowTicks < 64000 ∧
        ∃ w t, w.bus.phase = .window ∧ (s.abandonRound.low n).takeLowLimits = w ∧ (s.low n).takeLowLimits = w.holding t) := by
  obtain ⟨t, abandoned⟩ := s.abandonRound_low n
  have first : (s.low n).takeLowLimits = ((s.abandonRound.low n).holding t).takeLowLimits := by
    rw [takeLowLimits_of_longLowDue (s.low n) ((longLowDue_iff (s.low n)).mpr ⟨isLow, slot, reached⟩), abandoned]
  have raised : (s.abandonRound.low n).bus.lowTicks = max (s.low n).bus.lowTicks 160 := max_right_comm _ _ _
  rw [first]
  by_cases due : 64000 ≤ (s.low n).bus.lowTicks
  · left
    have breaks : (s.abandonRound.low n).breakDue = true :=
      (breakDue_iff _).mpr ⟨isLow, rfl, by rw [raised]; exact le_max_of_le_left due⟩
    have breaks' : ((s.abandonRound.low n).holding t).breakDue = true := breaks
    rw [takeLowLimits_of_breakDue (s.abandonRound.low n) rfl breaks,
      takeLowLimits_of_breakDue ((s.abandonRound.low n).holding t) rfl breaks', detectBreak_holding]
  · right
    have short : (s.abandonRound.low n).bus.lowTicks < 64000 := by
      rw [raised]
      omega
    have within : (s.abandonRound.low n).bus.WithinLimits :=
      .of_not_slot rfl (fun _ => short) (.inr (.inr (lt_trans short (by decide))))
    have within' : ((s.abandonRound.low n).holding t).bus.WithinLimits :=
      .of_not_slot rfl (fun _ => short) (.inr (.inr (lt_trans short (by decide))))
    exact ⟨by omega, _, t, rfl, takeLowLimits_of_within _ within, takeLowLimits_of_within _ within'⟩

/-- The break comes first where it is the next limit. -/
theorem takeLowLimits_after_detectBreak (n : Nat) (isLow : s.bus.lineLow = true) (slot : s.bus.phase.isSlot = false)
    (applies : s.bus.breakApplies = true) (reached : 64000 ≤ max s.bus.lowTicks n) :
    (s.detectBreak.low n).takeLowLimits = (s.low n).takeLowLimits := by
  rw [takeLowLimits_of_breakDue (s.low n) slot ((breakDue_iff (s.low n)).mpr ⟨isLow, applies, reached⟩), detectBreak_low]

/-- A state at whose low only the stuck report is still to come. -/
structure Spent (c : State) : Prop where
  isLow : c.bus.lineLow = true
  on : c.bus.phase ≠ .off
  slot : c.bus.phase.isSlot = false
  brk : c.bus.breakApplies = false

/-- With the shorter limits taken, a low of 50 ms is reported where it has not been. -/
theorem Spent.takeLowLimits_of_long {s : State} (spent : s.Spent) (n : Nat) (reached : 400000 ≤ max s.bus.lowTicks n) :
    (s.low n).takeLowLimits = if s.bus.stuckReported then s.low n else s.reportStuck.low n := by
  obtain ⟨isLow, on, slot, brk⟩ := spent
  rw [takeLowLimits_of_spent (s.low n) slot brk]
  cases reported : s.bus.stuckReported with
  | true =>
    have done : ¬ (s.low n).stuckDue = true := by
      rw [stuckDue_iff]
      rintro ⟨-, -, unreported, -⟩
      simp [reported] at unreported
    rw [if_neg done, if_pos rfl]
  | false =>
    rw [if_pos ((stuckDue_iff (s.low n)).mpr ⟨isLow, on, reported, reached⟩), if_neg (by decide), reportStuck_low]

theorem detectBreak_spent (isLow : s.bus.lineLow = true) : s.detectBreak.Spent := by
  constructor <;> rw [bus_detectBreak]
  · exact isLow
  · dsimp only
    split <;> decide
  · dsimp only
    split <;> rfl
  · by_cases drive : s.bus.phase = .breakDrive <;> simp [Bus.breakApplies, drive]

theorem lowTicks_le_detectBreak : s.bus.lowTicks ≤ s.detectBreak.bus.lowTicks := by
  rw [bus_detectBreak]
  exact le_max_left _ _

/-- A low of 50 ms takes the shorter limits the same way however long it is. -/
theorem takeLowLimits_of_shorter (isLow : s.bus.lineLow = true) (on : s.bus.phase ≠ .off) :
    ∃ c : State, c.Spent ∧ s.bus.lowTicks ≤ c.bus.lowTicks ∧
      ∀ n, 400000 ≤ max s.bus.lowTicks n → (s.low n).takeLowLimits = (c.low n).takeLowLimits := by
  by_cases slot : s.bus.phase.isSlot = true
  · have longer : s.bus.lowTicks ≤ s.abandonRound.bus.lowTicks := le_max_left _ _
    refine ⟨s.abandonRound.detectBreak, s.abandonRound.detectBreak_spent isLow,
      longer.trans s.abandonRound.lowTicks_le_detectBreak, fun n reached => ?_⟩
    have breaks := s.abandonRound.takeLowLimits_after_detectBreak n isLow rfl rfl (by omega)
    rcases s.takeLowLimits_after_abandonRound n isLow slot (by omega) with same | ⟨short, -⟩
    · rw [breaks, same]
    · rw [lowTicks_low] at short
      omega
  · rw [Bool.not_eq_true] at slot
    cases applies : s.bus.breakApplies with
    | true =>
      refine ⟨s.detectBreak, s.detectBreak_spent isLow, s.lowTicks_le_detectBreak, fun n reached => ?_⟩
      exact (s.takeLowLimits_after_detectBreak n isLow slot applies (by omega)).symm
    | false => exact ⟨s, ⟨isLow, on, slot, applies⟩, le_rfl, fun _ _ => rfl⟩

/-- After a stuck report a longer low of the same fall brings nothing else. -/
theorem takeLowLimits_after_stuck (n : Nat) (isLow : s.bus.lineLow = true) (on : s.bus.phase ≠ .off)
    (reached : 400000 ≤ max s.bus.lowTicks n) :
    ((s.low 400000).takeLowLimits.low n).takeLowLimits = (s.low n).takeLowLimits := by
  obtain ⟨c, spent, longer, takes⟩ := s.takeLowLimits_of_shorter isLow on
  have long : 400000 ≤ max c.bus.lowTicks n := by omega
  have same : max c.bus.lowTicks (max 400000 n) = max c.bus.lowTicks n := by omega
  rw [takes 400000 (le_max_right _ _), takes n reached, spent.takeLowLimits_of_long 400000 (le_max_right _ _),
    spent.takeLowLimits_of_long n long]
  cases reported : c.bus.stuckReported with
  | true => rw [if_pos rfl, if_pos rfl, low_low, low_congr c same, spent.takeLowLimits_of_long n long, if_pos reported]
  | false =>
    have reports : c.reportStuck.Spent := ⟨spent.isLow, spent.on, spent.slot, spent.brk⟩
    have isReported : c.reportStuck.bus.stuckReported = true := rfl
    rw [if_neg (by decide), if_neg (by decide), low_low, low_congr c.reportStuck same, reports.takeLowLimits_of_long n long,
      if_pos isReported]

/-! ## What the limits leave of the line and of the commanded break -/

@[simp] theorem lineLow_detectBreak : s.detectBreak.bus.lineLow = s.bus.lineLow := by
  rw [bus_detectBreak]

@[simp] theorem breakTimer_detectBreak : s.detectBreak.bus.breakTimer = s.bus.breakTimer := by
  rw [bus_detectBreak]

theorem lineLow_takeLowLimits : s.takeLowLimits.bus.lineLow = s.bus.lineLow := by
  have first : (if s.longLowDue then s.abandonRound else s).bus.lineLow = s.bus.lineLow := s.lineLow_longLowLimit
  have second (t : State) : (if t.breakDue then t.detectBreak else t).bus.lineLow = t.bus.lineLow := by split <;> simp
  have third (t : State) : (if t.stuckDue then t.reportStuck else t).bus.lineLow = t.bus.lineLow := by split <;> rfl
  exact (third _).trans ((second _).trans first)

theorem breakTimer_takeLowLimits : s.takeLowLimits.bus.breakTimer = s.bus.breakTimer := by
  have first : (if s.longLowDue then s.abandonRound else s).bus.breakTimer = s.bus.breakTimer := by split <;> rfl
  have second (t : State) : (if t.breakDue then t.detectBreak else t).bus.breakTimer = t.bus.breakTimer := by
    split <;> simp
  have third (t : State) : (if t.stuckDue then t.reportStuck else t).bus.breakTimer = t.bus.breakTimer := by
    split <;> rfl
  exact (third _).trans ((second _).trans first)

/-! ## Where the limits come to the same, so do the commands that take them -/

theorem completeOperation_holding (t : Timer) : (s.holding t).completeOperation = s.completeOperation.holding t := by
  unfold completeOperation
  have same : (s.holding t).processor = s.processor := rfl
  rw [same]
  split
  · rfl
  · rw [foldl_queueAt_eq, foldl_queueAt_eq]
    rfl

/-- The rise ends the hold of a window. -/
theorem closeWindow_holding (t : Timer) : (s.holding t).closeWindow = s.closeWindow := by
  unfold closeWindow
  rw [completeOperation_holding]
  rfl

theorem rise_congr {t : State} {low : Nat} (dat : Bool) (same : (t.low low).takeLowLimits = (s.low low).takeLowLimits) :
    t.rise low dat = s.rise low dat := by
  have same' : takeLowLimits { t with bus := t.bus.lowAtLeast low } = takeLowLimits { s with bus := s.bus.lowAtLeast low } :=
    same
  rw [rise, rise, same']

theorem rise_after_abandonRound (low : Nat) (dat : Bool) (isLow : s.bus.lineLow = true) (slot : s.bus.phase.isSlot = true)
    (reached : 160 ≤ max s.bus.lowTicks low) : s.abandonRound.rise low dat = s.rise low dat := by
  rcases s.takeLowLimits_after_abandonRound low isLow slot reached with same | ⟨-, w, t, window, abandoned, direct⟩
  · exact s.rise_congr dat same
  · have abandoned' : takeLowLimits { s.abandonRound with bus := s.abandonRound.bus.lowAtLeast low } = w := abandoned
    have direct' : takeLowLimits { s with bus := s.bus.lowAtLeast low } = w.holding t := direct
    have closes := riseInPhase_of_window dat { w with bus := w.bus.lineRises } window
    have closes' := riseInPhase_of_window dat { w.holding t with bus := (w.holding t).bus.lineRises } window
    rw [rise, rise, abandoned', direct']
    exact closes.trans ((closeWindow_holding { w with bus := w.bus.lineRises } t).symm.trans closes'.symm)

theorem releaseBreak_congr {t : State} (o : Bool) (same : (t.low 96000).takeLowLimits = (s.low 96000).takeLowLimits) :
    t.releaseBreak o = s.releaseBreak o := by
  have same' : takeLowLimits { t with bus := t.bus.lowAtLeast breakDriveTicks } =
      takeLowLimits { s with bus := s.bus.lowAtLeast breakDriveTicks } := same
  rw [releaseBreak, releaseBreak, same']

end State

/-! ## The commands of the limits -/

theorem exec_longLow (s : State) (isLow : s.bus.lineLow = true) (slot : s.bus.phase.isSlot = true) :
    exec .longLow s = .next s.abandonRound := congrArg Host.Outcome.next (if_pos ⟨isLow, slot⟩)

theorem exec_breakDetected (s : State) (isLow : s.bus.lineLow = true) (applies : s.bus.breakApplies = true) :
    exec .breakDetected s = .next s.detectBreak := congrArg Host.Outcome.next (if_pos ⟨isLow, applies⟩)

theorem exec_syncStuck (s : State) (isLow : s.bus.lineLow = true) (on : s.bus.phase ≠ .off) :
    exec .syncStuck s = .next (s.low 400000).takeLowLimits := congrArg Host.Outcome.next (if_pos ⟨isLow, on⟩)

theorem exec_commandedBreakEnd (s : State) (o : Bool) (drive : s.bus.phase = .breakDrive)
    (runs : s.bus.breakTimer.isSome = true) : exec (.commandedBreakEnd o) s = .next (s.releaseBreak o) :=
  congrArg Host.Outcome.next (if_pos ⟨drive, runs⟩)

end Sys2Proof.Machine
end

section
/-! CLAIMS. Lows that last. -/

namespace Sys2Proof.Proofs

open Sys2Proof Sys2Proof.Machine

/-- Settles O36: the round in progress is dropped, and the low goes on as that of a window. -/
theorem longLowAbandonsTheRound : Obligations.LongLowAbandonsTheRound := by
  unfold Obligations.LongLowAbandonsTheRound
  intro s low slot
  exact congrArg Host.Outcome.next (if_pos ⟨low, slot⟩)

/-- Settles O37: the limit applies in every phase but three, and once in the station's own drive. -/
theorem breakIsDetected : Obligations.BreakIsDetected := by
  unfold Obligations.BreakIsDetected
  intro s low notOff notSettling notBreak once u
  have applies := s.bus.breakApplies_iff.mpr ⟨notOff, notSettling, notBreak, once⟩
  exact congrArg Host.Outcome.next ((if_pos ⟨low, applies⟩).trans s.detectBreak_eq)

/-- Settles O38: the end of the break in the state that the rise or the release leaves, no limit being due. -/
theorem breakEndsInSettling : Obligations.BreakEndsInSettling := by
  unfold Obligations.BreakEndsInSettling
  intro s isLow ended
  refine ⟨fun low dat brk short => ?_, fun drive runs seen short => ⟨?_, ?_⟩⟩
  · have within : (s.bus.lowAtLeast low).WithinLimits :=
      .of_not_slot (by simp [Bus.lowAtLeast, brk, Phase.isSlot]) (by simp [Bus.lowAtLeast, Bus.breakApplies, brk])
        (.inr short.symm)
    rw [exec_syncRise_of_within low dat s isLow within,
      State.riseInPhase_of_brk dat { s with bus := s.bus.risen low } brk, s.endBreak_of_bus (s.bus.risen low) rfl]
    rfl
  all_goals
    have within : (s.bus.lowAtLeast 96000).WithinLimits :=
      .of_not_slot (by simp [Bus.lowAtLeast, drive, Phase.isSlot])
        (by simp [Bus.lowAtLeast, Bus.breakApplies, drive, seen]) (.inr short.symm)
    have taken : State.takeLowLimits { s with bus := s.bus.lowAtLeast breakDriveTicks } =
        { s with bus := s.bus.lowAtLeast 96000 } :=
      State.takeLowLimits_of_within { s with bus := s.bus.lowAtLeast 96000 } within
  · rw [exec_commandedBreakEnd s false drive runs, State.releaseBreak, taken]
    refine Eq.trans (congrArg Host.Outcome.next (if_neg (by simp))) ?_
    exact congrArg Host.Outcome.next
      (s.endBreak_of_bus (Bus.lineRises { s.bus.lowAtLeast 96000 with breakTimer := none }) rfl)
  · rw [exec_commandedBreakEnd s true drive runs, State.releaseBreak, taken]
    exact congrArg Host.Outcome.next (if_pos isLow)

/-- Settles O39: a limit taken first is not due again, and the longer low takes up what it leaves. -/
theorem shorterLimitsAreTakenFirst : Obligations.ShorterLimitsAreTakenFirst := by
  unfold Obligations.ShorterLimitsAreTakenFirst
  intro s isLow first breakToCome
  have applies (toCome : breakToCome) : s.bus.phase.isSlot = false ∧ s.bus.breakApplies = true ∧ s.bus.phase ≠ .off := by
    rcases toCome with h | h | h | ⟨h, seen⟩ <;> simp [Bus.breakApplies, Phase.isSlot, *]
  have broken : s.detectBreak.bus.lineLow = true := s.lineLow_detectBreak.trans isLow
  have stuck : (s.low 400000).takeLowLimits.bus.lineLow = true := (State.lineLow_takeLowLimits _).trans isLow
  refine ⟨fun low dat slot reached => ?_, fun low dat toCome reached => ?_, fun low dat on reached => ?_, fun slot => ?_,
    fun toCome => ?_, fun o drive runs unseen => ?_, fun o drive runs reached => ?_⟩
  · refine ⟨_, _, exec_longLow s isLow slot, exec_syncRise_of_low low dat s.abandonRound isLow, ?_⟩
    rw [exec_syncRise_of_low low dat s isLow, s.rise_after_abandonRound low dat isLow slot reached]
  · obtain ⟨slot, applies, -⟩ := applies toCome
    refine ⟨_, _, exec_breakDetected s isLow applies, exec_syncRise_of_low low dat s.detectBreak broken, ?_⟩
    rw [exec_syncRise_of_low low dat s isLow,
      s.rise_congr dat (s.takeLowLimits_after_detectBreak low isLow slot applies reached)]
  · refine ⟨_, _, exec_syncStuck s isLow on, exec_syncRise_of_low low dat _ stuck, ?_⟩
    rw [exec_syncRise_of_low low dat s isLow, s.rise_congr dat (s.takeLowLimits_after_stuck low isLow on reached)]
  · have on : s.bus.phase ≠ .off := fun off => by simp [off, Phase.isSlot] at slot
    refine ⟨_, _, exec_longLow s isLow slot, exec_syncStuck s.abandonRound isLow (by simp [State.bus_abandonRound]), ?_⟩
    rcases s.takeLowLimits_after_abandonRound 400000 isLow slot (le_trans (by decide) (le_max_right _ _)) with
      same | ⟨short, -⟩
    · rw [exec_syncStuck s isLow on, same]
    · rw [State.lowTicks_low] at short
      omega
  · obtain ⟨slot, applies, on⟩ := applies toCome
    refine ⟨_, _, exec_breakDetected s isLow applies, exec_syncStuck s.detectBreak broken (s.detectBreak_spent isLow).on, ?_⟩
    rw [exec_syncStuck s isLow on,
      s.takeLowLimits_after_detectBreak 400000 isLow slot applies (le_trans (by decide) (le_max_right _ _))]
  · obtain ⟨slot, applies, -⟩ := applies (.inr (.inr (.inr ⟨drive, unseen⟩)))
    have still : s.detectBreak.bus.phase = .breakDrive := by rw [State.phase_detectBreak, if_pos drive]
    refine ⟨_, _, exec_breakDetected s isLow applies,
      exec_commandedBreakEnd s.detectBreak o still (by rwa [State.breakTimer_detectBreak]), ?_⟩
    rw [exec_commandedBreakEnd s o drive runs, s.releaseBreak_congr o
      (s.takeLowLimits_after_detectBreak 96000 isLow slot applies (le_trans (by decide) (le_max_right _ _)))]
  · have on : s.bus.phase ≠ .off := by simp [drive]
    have still : (s.low 400000).takeLowLimits.bus.phase = .breakDrive :=
      State.phase_takeLowLimits_of_drive (s.low 400000) drive
    have runs' : (s.low 400000).takeLowLimits.bus.breakTimer.isSome = true := by
      rw [State.breakTimer_takeLowLimits]
      exact runs
    refine ⟨_, _, exec_syncStuck s isLow on, exec_commandedBreakEnd _ o still runs', ?_⟩
    rw [exec_commandedBreakEnd s o drive runs, s.releaseBreak_congr o
      (s.takeLowLimits_after_stuck 96000 isLow on (le_max_of_le_left reached))]

/-- Settles O40: the report where it is still to come, and what the ends of hold, strobe and wait leave. -/
theorem stuckReportHoldEndsAndSettling : Obligations.StuckReportHoldEndsAndSettling := by
  unfold Obligations.StuckReportHoldEndsAndSettling
  refine ⟨fun s isLow phase => ?_, fun s => ⟨fun holds => ?_, fun strobes => rfl, fun settling waits => ?_⟩⟩
  · have spent : s.Spent := by
      rcases phase with h | h | ⟨h, seen⟩ <;>
        exact ⟨isLow, by simp [h], by simp [h, Phase.isSlot], by simp [Bus.breakApplies, *]⟩
    have takes := spent.takeLowLimits_of_long 400000 (le_max_right _ _)
    rw [exec_syncStuck s isLow spent.on, takes]
    refine ⟨fun unreported => ?_, fun reported => ?_⟩
    · rw [unreported]
      rfl
    · rw [if_pos reported]
      rfl
  · exact congrArg Host.Outcome.next (if_pos holds)
  · exact congrArg Host.Outcome.next ((if_pos ⟨settling, waits⟩).trans (by rw [Bus.enterIdle_eq]))

end Sys2Proof.Proofs
end

section
/-! SUPPORT. The end of a slot in closed form (R4, R5, R7). -/

namespace Sys2Proof.Machine

namespace State

/-- The state in which a slot's owner takes the value: the line is high, the count is over and the slot interval runs. -/
def slotTaken (low : Nat) (s : State) : State :=
  { s with
    frontEnd := s.frontEnd.endCount
    bus := { s.bus.risen low with slotTimer := some slotTicks } }

/-- What is left to do once the slot's value has been taken. -/
def slotDone (t : State) : State :=
  { t with bus :=
    { t.bus with
      slotIndex := if t.bus.phase.isSlot then t.bus.slotIndex + 1 else t.bus.slotIndex
      datDrive := false } }

/-- Where another slot follows, its index is due. -/
theorem slotDone_of_isSlot (t : State) (slot : t.bus.phase.isSlot = true) :
    t.slotDone = { t with bus := { t.bus with slotIndex := t.bus.slotIndex + 1, datDrive := false } } := by
  rw [slotDone, if_pos slot]

/-- Where the round has ended, the bus engine is between rounds. -/
theorem slotDone_of_enterIdle (t : State) (r : ConfigRecord) (b : Bus) (k : Nat) :
    slotDone { t with bus := b.enterIdle r } =
      { t with bus := Bus.betweenRounds r { b with slotIndex := k, datDrive := false } } := by
  rw [Bus.enterIdle_eq]
  cases pending : b.pendingBreak <;> simp [slotDone, Bus.betweenRounds, Phase.isSlot, pending]

end State

/-- A slot's rise: the owner takes the value, and the drive is removed. -/
theorem exec_syncRise_eq_slotDone (low : Nat) (dat : Bool) (s : State) (slotLow : SlotLow low s)
    (slot : s.bus.phase.isSlot = true) :
    exec (.syncRise low dat) s = .next ((s.slotTaken low).slotResult dat).slotDone :=
  exec_syncRise_of_slot low dat s slotLow slot

/-! ### The owner of the slot -/

theorem exec_syncRise_of_quiet (low : Nat) (dat : Bool) (s : State) (slotLow : SlotLow low s) (quiet : s.bus.phase = .quiet) :
    exec (.syncRise low dat) s = .next ((s.slotTaken low).quietResult dat).slotDone := by
  have phase : (s.slotTaken low).bus.phase = .quiet := quiet
  rw [exec_syncRise_eq_slotDone low dat s slotLow (by rw [quiet]; rfl), State.slotResult, phase]

theorem exec_syncRise_of_claim (low : Nat) (dat : Bool) (s : State) (slotLow : SlotLow low s) (claim : s.bus.phase = .claim) :
    exec (.syncRise low dat) s = .next ((s.slotTaken low).claimResult dat).slotDone := by
  have phase : (s.slotTaken low).bus.phase = .claim := claim
  rw [exec_syncRise_eq_slotDone low dat s slotLow (by rw [claim]; rfl), State.slotResult, phase]

theorem exec_syncRise_of_bid (low : Nat) (dat : Bool) (s : State) (slotLow : SlotLow low s) (bid : s.bus.phase = .bid) :
    exec (.syncRise low dat) s = .next ((s.slotTaken low).bidResult dat).slotDone := by
  have phase : (s.slotTaken low).bus.phase = .bid := bid
  rw [exec_syncRise_eq_slotDone low dat s slotLow (by rw [bid]; rfl), State.slotResult, phase]

theorem exec_syncRise_of_digestA (low : Nat) (dat : Bool) (s : State) (slotLow : SlotLow low s)
    (digestA : s.bus.phase = .digestA) :
    exec (.syncRise low dat) s = .next ((s.slotTaken low).digestAResult dat).slotDone := by
  have phase : (s.slotTaken low).bus.phase = .digestA := digestA
  rw [exec_syncRise_eq_slotDone low dat s slotLow (by rw [digestA]; rfl), State.slotResult, phase]

theorem exec_syncRise_of_digestB (low : Nat) (dat : Bool) (s : State) (slotLow : SlotLow low s)
    (digestB : s.bus.phase = .digestB) :
    exec (.syncRise low dat) s = .next ((s.slotTaken low).digestBResult dat).slotDone := by
  have phase : (s.slotTaken low).bus.phase = .digestB := digestB
  rw [exec_syncRise_eq_slotDone low dat s slotLow (by rw [digestB]; rfl), State.slotResult, phase]

/-! ### The unit's record of a digest slot (R72) -/

theorem Agreement.isDriver_eq (a : Agreement) :
    a.isDriver = (decide (a.part = some .member) || decide (a.part = some .forcing)) := by
  rw [Agreement.isDriver, Bool.beq_eq_decide_eq, Bool.beq_eq_decide_eq]

theorem Agreement.recordSlot_passA (dat drove : Bool) (a : Agreement) :
    a.recordSlot false dat drove = { a with
      passA := a.passA ++ [dat]
      difference := a.difference ||
        ((decide (a.part = some .member) || decide (a.part = some .forcing)) && dat != drove) } := by
  rw [Agreement.recordSlot, Agreement.isDriver_eq]
  rfl

theorem Agreement.recordSlot_passB (dat drove : Bool) (a : Agreement) :
    a.recordSlot true dat drove = { a with
      passB := a.passB ++ [dat]
      difference := a.difference ||
        ((decide (a.part = some .member) || decide (a.part = some .forcing)) && dat != drove) } := by
  rw [Agreement.recordSlot, Agreement.isDriver_eq]
  rfl

/-! ### The end of the contest phase (R39, R48) -/

/-- What the tracking step makes of tracker, queue and indicator looks at these, the winner list, the record and the stamp. -/
theorem State.withTracking_afterContests (v : State) {s t : State} (membership : t.agreement.membership = s.agreement.membership)
    (faultMark : t.contest.faultMark = s.contest.faultMark) (winners : t.contest.winners = s.contest.winners)
    (tracker : t.tracker = s.tracker) (store : t.store = s.store) (queue : t.queue = s.queue)
    (indicator : t.indicator = s.indicator) (stamp : t.bus.stamp = s.bus.stamp) :
    v.withTracking t.afterContests = v.withTracking s.afterContests := by
  unfold State.afterContests
  rw [membership, faultMark]
  split
  · simp only [State.track_eq, State.withTracking, winners, tracker, store, queue, indicator, stamp]
  · simp only [State.withTracking, tracker, queue, indicator]

theorem State.endContests_eq (s : State) :
    s.endContests =
      { s.withTracking s.afterContests with bus := { s.bus with phase := .digestA, bitIndex := 0 } } := by
  unfold State.endContests State.afterContests
  dsimp only
  split
  · rw [State.track_eq]
    rfl
  · rfl

theorem State.endContests_of_untracked (s : State)
    (untracked : s.agreement.membership ≠ .member ∨ s.contest.faultMark = true) :
    s.endContests = { s with bus := { s.bus with phase := .digestA, bitIndex := 0 } } := by
  unfold State.endContests
  rw [if_neg]
  rintro ⟨member, clear⟩
  simp [member, clear] at untracked

end Sys2Proof.Machine
end

section
/-! CLAIMS. Rises of SYNC: the slots up to the bids. -/

namespace Sys2Proof.Proofs

open Sys2Proof Sys2Proof.Machine

/-- Settles O30: the owner's result by the value of the slot. -/
theorem quietAndClaimSlotsDecideWhatFollows : Obligations.QuietAndClaimSlotsDecideWhatFollows := by
  unfold Obligations.QuietAndClaimSlotsDecideWhatFollows
  refine ⟨?_, ?_⟩
  · intro low s slotLow quiet done
    refine ⟨?_, ?_⟩
    · rw [exec_syncRise_of_quiet low false s slotLow quiet]
      rfl
    · rw [exec_syncRise_of_quiet low true s slotLow quiet]
      exact congrArg Host.Outcome.next (State.slotDone_of_enterIdle ((s.slotTaken low).record (.busFault .datStuck))
        s.store.record (s.slotTaken low).bus (s.bus.slotIndex + 1))
  · intro low s slotLow claim done
    refine ⟨?_, ?_⟩
    · rw [exec_syncRise_of_claim low true s slotLow claim]
      rfl
    · have tracks := State.withTracking_afterContests done (s := s) (t := { s.slotTaken low with
          bus := { (s.slotTaken low).bus with contestCount := s.bus.contestCount + 1 }
          contest := { s.contest with bidding := false, bid := none } }) rfl rfl rfl rfl rfl rfl rfl rfl
      rw [exec_syncRise_of_claim low false s slotLow claim, ← tracks]
      exact congrArg (fun u => Host.Outcome.next u.slotDone) (State.endContests_eq _)

/-- Settles O32: the unit reads the slot back against its own drive. -/
theorem bidSlotIsReadBack : Obligations.BidSlotIsReadBack := by
  unfold Obligations.BidSlotIsReadBack
  intro low dat s slotLow bid early done
  have slot : s.bus.phase.isSlot = true := by rw [bid]; rfl
  have reads : (s.slotTaken low).bidResult dat =
      { s.slotTaken low with
        contest := s.contest.readBack dat s.bus.datDrive
        bus := { (s.slotTaken low).bus with bitIndex := s.bus.bitIndex + 1 } } := if_pos early
  rw [exec_syncRise_of_bid low dat s slotLow bid]
  exact congrArg Host.Outcome.next ((congrArg State.slotDone reads).trans (State.slotDone_of_isSlot _ slot))

/-- Settles O34: the pass takes the bit, and a driver compares it with its drive. -/
theorem digestSlotIsRecorded : Obligations.DigestSlotIsRecorded := by
  unfold Obligations.DigestSlotIsRecorded
  intro low dat s slotLow done driver a
  have recordsA := Agreement.recordSlot_passA dat s.bus.datDrive s.agreement
  have recordsB := Agreement.recordSlot_passB dat s.bus.datDrive s.agreement
  refine ⟨fun digestA early => ?_, fun digestA last => ?_, fun digestB early => ?_⟩
  · have slot : s.bus.phase.isSlot = true := by rw [digestA]; rfl
    have reads : (s.slotTaken low).digestAResult dat =
        { s.slotTaken low with
          agreement := s.agreement.recordSlot false dat s.bus.datDrive
          bus := { (s.slotTaken low).bus with bitIndex := s.bus.bitIndex + 1 } } := if_pos early
    rw [recordsA] at reads
    rw [exec_syncRise_of_digestA low dat s slotLow digestA]
    exact congrArg Host.Outcome.next ((congrArg State.slotDone reads).trans (State.slotDone_of_isSlot _ slot))
  · have reads : (s.slotTaken low).digestAResult dat =
        { s.slotTaken low with
          agreement := s.agreement.recordSlot false dat s.bus.datDrive
          bus := { (s.slotTaken low).bus with phase := .digestB, bitIndex := 0 } } :=
      if_neg (show ¬ s.bus.bitIndex < 15 by omega)
    rw [recordsA] at reads
    rw [exec_syncRise_of_digestA low dat s slotLow digestA]
    exact congrArg Host.Outcome.next (congrArg State.slotDone reads)
  · have slot : s.bus.phase.isSlot = true := by rw [digestB]; rfl
    have reads : (s.slotTaken low).digestBResult dat =
        { s.slotTaken low with
          agreement := s.agreement.recordSlot true dat s.bus.datDrive
          bus := { (s.slotTaken low).bus with bitIndex := s.bus.bitIndex + 1 } } := if_pos early
    rw [recordsB] at reads
    rw [exec_syncRise_of_digestB low dat s slotLow digestB]
    exact congrArg Host.Outcome.next ((congrArg State.slotDone reads).trans (State.slotDone_of_isSlot _ slot))

end Sys2Proof.Proofs
end

section
/-! SUPPORT. The outcome of a round in closed form (R75 to R80). -/

namespace Sys2Proof.Machine

/-! ## The outcome by the part -/

theorem State.takeOutcome_of_member (s : State) (part : s.agreement.part = some .member) :
    s.takeOutcome = s.memberOutcome := by
  rw [State.takeOutcome, part]

theorem State.takeOutcome_of_listening (s : State)
    (part : s.agreement.part = some .listener ∨ s.agreement.part = some .forcing) : s.takeOutcome = s.listenerOutcome := by
  rcases part with part | part <;> rw [State.takeOutcome, part]

theorem State.takeOutcome_of_silent (s : State) (part : s.agreement.part = some .silent ∨ s.agreement.part = none) :
    s.takeOutcome = s := by
  rcases part with part | part <;> rw [State.takeOutcome, part]

/-- What a clear makes of tracker, queue and indicator looks at these, the record and the stamp. -/
theorem State.withTracking_clearTouches (v : State) (c : ClearCause) {s t : State} (tracker : t.tracker = s.tracker)
    (store : t.store = s.store) (queue : t.queue = s.queue) (indicator : t.indicator = s.indicator)
    (stamp : t.bus.stamp = s.bus.stamp) :
    v.withTracking (t.clearTouches c) = v.withTracking (s.clearTouches c) := by
  simp only [State.clearTouches_eq, State.withTracking, tracker, store, queue, indicator, stamp]

theorem State.memberOutcome_of_agreed (s : State) (same : s.agreement.difference = false) : s.memberOutcome = s :=
  if_neg (by simp [same])

theorem State.memberOutcome_of_different (s : State) (differs : s.agreement.difference = true) :
    s.memberOutcome = { s.withTracking (s.clearTouches .mismatch) with
      agreement := { s.agreement with listenRounds := 0, forcing := false } } := by
  rw [State.memberOutcome, if_pos differs, State.clearTouches_eq]
  rfl

theorem State.listenerOutcome_of_adoptable (s : State) (agrees : s.agreement.agrees = true)
    (adoptable : s.agreement.adoptable = true) :
    s.listenerOutcome =
      let d := demandOf s.store.record s.indicator.mode s.tracker.touches
      (State.withRecord (.membership .member) { s with
        tracker := { s.tracker with nextId := s.agreement.readId }
        indicator := if d = s.indicator.demand then s.indicator else s.indicator.demandChanges s.store.record d }).withMembership
          .member := by
  rw [State.listenerOutcome, if_pos agrees, if_pos adoptable, State.adopt_eq]
  rfl

theorem State.listenerOutcome_of_waiting (s : State) (agrees : s.agreement.agrees = true)
    (unadoptable : ¬ s.agreement.adoptable = true) :
    s.listenerOutcome = { s with agreement := s.agreement.waitRound s.contest.faultMark } := by
  rw [State.listenerOutcome, if_pos agrees, if_neg unadoptable]

theorem State.listenerOutcome_of_disagreed (s : State) (disagrees : ¬ s.agreement.agrees = true) :
    s.listenerOutcome =
      ((s.withTracking (s.clearTouches .formation)).withRecord (.membership .member)).withMembership .member := by
  rw [State.listenerOutcome, if_neg disagrees, State.clearTouches_eq]
  rfl

/-- A waiting round in the terms of R79. -/
theorem Agreement.waitRound_eq (faultMark : Bool) (a : Agreement) :
    a.waitRound faultMark =
      if faultMark = false ∧ a.listenRounds < 64 then
        { a with listenRounds := a.listenRounds + 1, forcing := a.forcing || decide (a.listenRounds = 63) }
      else a := by
  have reaches : (a.listenRounds + 1 == 64) = decide (a.listenRounds = 63) := by
    rw [Bool.beq_eq_decide_eq, decide_eq_decide]
    omega
  simp only [Agreement.waitRound, Bool.and_eq_true, Bool.not_eq_true', decide_eq_true_eq, reaches]

/-- The id read in pass A (R78). -/
theorem Agreement.readId_eq (a : Agreement) (length : a.passA.length = 16) : a.readId = natOfBits a.passA / 256 := by
  rw [Agreement.readId, toNat_passValue _ length]

/-! ## The last digest slot -/

theorem Bus.stamp_betweenRounds (r : ConfigRecord) (b : Bus) : (b.betweenRounds r).stamp = b.stamp := by
  rw [Bus.betweenRounds]
  split <;> rfl

/-- A record takes nothing of the bus engine but the stamp, and the membership nothing at all. -/
theorem State.joined_withBus (e : Event) (m : Membership) (u : State) (b : Bus) (stamp : b.stamp = u.bus.stamp) :
    { (u.withRecord e).withMembership m with bus := b } = (({ u with bus := b } : State).withRecord e).withMembership m := by
  simp only [State.withRecord, State.withMembership, stamp]

theorem State.digestBResult_of_last (s : State) (dat : Bool) (last : ¬ s.bus.bitIndex < 15) :
    s.digestBResult dat =
      { State.takeOutcome { s with agreement := s.agreement.recordSlot true dat s.bus.datDrive } with
        bus := s.bus.enterIdle s.store.record } := by
  have bus := State.bus_takeOutcome { s with agreement := s.agreement.recordSlot true dat s.bus.datDrive }
  have store := State.store_takeOutcome { s with agreement := s.agreement.recordSlot true dat s.bus.datDrive }
  rw [State.digestBResult]
  simp only [if_neg last, bus, store]

/-- The last digest slot of a round: the unit records it, the outcome is taken, and the bus engine is between rounds (R7). -/
theorem exec_syncRise_of_lastDigest (low : Nat) (dat : Bool) (s : State) (slotLow : SlotLow low s)
    (digestB : s.bus.phase = .digestB) (last : s.bus.bitIndex = 15) (a : Agreement)
    (records : s.agreement.recordSlot true dat s.bus.datDrive = a) :
    exec (.syncRise low dat) s =
      .next { State.takeOutcome { s.slotTaken low with agreement := a } with
        bus := (s.slotEnded low).bus.betweenRounds s.store.record } := by
  subst records
  have reads := (s.slotTaken low).digestBResult_of_last dat (show ¬ s.bus.bitIndex < 15 by omega)
  rw [exec_syncRise_of_digestB low dat s slotLow digestB, reads]
  exact congrArg Host.Outcome.next
    (State.slotDone_of_enterIdle _ s.store.record (s.slotTaken low).bus (s.bus.slotIndex + 1))

end Sys2Proof.Machine
end

section
/-! CLAIMS. The outcome of a round. -/

namespace Sys2Proof.Proofs

open Sys2Proof Sys2Proof.Machine

/-- Settles O35: the outcome by the part, and a listener's by what the passes read. -/
theorem lastDigestSlotTakesTheOutcome : Obligations.LastDigestSlotTakesTheOutcome := by
  unfold Obligations.LastDigestSlotTakesTheOutcome
  intro low dat s slotLow digestB last driver a done passA passB listening demand adopted lengthA lengthB
  have ends := exec_syncRise_of_lastDigest low dat s slotLow digestB last a
    (Agreement.recordSlot_passB dat s.bus.datDrive s.agreement)
  have agrees := Agreement.agrees_iff a lengthA lengthB
  have adoptable := Agreement.adoptable_iff a lengthA
  have outcome {u : State} (is : State.takeOutcome { s.slotTaken low with agreement := a } = u) :
      exec (.syncRise low dat) s = .next { u with bus := (s.slotEnded low).bus.betweenRounds s.store.record } :=
    ends.trans (congrArg (fun v : State =>
      Host.Outcome.next { v with bus := (s.slotEnded low).bus.betweenRounds s.store.record }) is)
  have stamp : ((s.slotEnded low).bus.betweenRounds s.store.record).stamp = s.bus.stamp := Bus.stamp_betweenRounds _ _
  have tracking (v : State) (c : ClearCause) :
      v.withTracking (State.clearTouches c { s.slotTaken low with agreement := a }) = v.withTracking (s.clearTouches c) :=
    State.withTracking_clearTouches v c rfl rfl rfl rfl rfl
  refine ⟨fun part same => ?_, fun part differs => ?_, fun part sum noLow some => ?_, fun part sum unadoptable => ?_,
    fun part sum => ?_, fun part => ?_⟩
  · exact outcome ((State.takeOutcome_of_member { s.slotTaken low with agreement := a } part).trans (State.memberOutcome_of_agreed { s.slotTaken low with agreement := a } same))
  · have is := State.memberOutcome_of_different { s.slotTaken low with agreement := a } differs
    rw [tracking] at is
    exact outcome ((State.takeOutcome_of_member { s.slotTaken low with agreement := a } part).trans is)
  · have is := State.listenerOutcome_of_adoptable { s.slotTaken low with agreement := a } (agrees.mpr sum)
      (adoptable.mpr ⟨noLow, some⟩)
    have readId : a.readId = passA / 256 := a.readId_eq lengthA
    rw [readId] at is
    exact (outcome ((State.takeOutcome_of_listening { s.slotTaken low with agreement := a } part).trans is)).trans
      (congrArg Host.Outcome.next (State.joined_withBus _ _ _ _ stamp))
  · have not : ¬ a.adoptable = true := fun adopts => by
      obtain ⟨noLow, some⟩ := adoptable.mp adopts
      exact unadoptable.elim (· noLow) some
    have is := State.listenerOutcome_of_waiting { s.slotTaken low with agreement := a } (agrees.mpr sum) not
    rw [Agreement.waitRound_eq] at is
    exact outcome ((State.takeOutcome_of_listening { s.slotTaken low with agreement := a } part).trans is)
  · have is := State.listenerOutcome_of_disagreed { s.slotTaken low with agreement := a } (agrees.not.mpr sum)
    rw [tracking] at is
    exact (outcome ((State.takeOutcome_of_listening { s.slotTaken low with agreement := a } part).trans is)).trans
      (congrArg Host.Outcome.next (State.joined_withBus _ _ _ _ stamp))
  · exact outcome (State.takeOutcome_of_silent { s.slotTaken low with agreement := a } part)

end Sys2Proof.Proofs
end

section
/-! SUPPORT. The front end's counters, and the processing operation in closed form (R103, R105, R117, R125, R128). -/

namespace Sys2Proof.Machine

/-! ## The counters -/

theorem isConfigured_iff_lt_count (r : ConfigRecord) (n : Fin 8) : isConfigured r n = true ↔ n.val < cfgChannelCount r :=
  decide_eq_true_iff

theorem FrontEnd.countCycles_one_of_lt {f : FrontEnd} {n : Fin 8} (below : f.counters[n] < 65535) :
    f.countCycles n 1 = { f with counters := f.counters.set n (f.counters[n] + 1) } := by
  have value : min 65535 (f.counters[n] + 1) = f.counters[n] + 1 := by omega
  have within : (f.overrange[n] || decide (65535 < f.counters[n] + 1)) = f.overrange[n] := by
    rw [decide_eq_false (by omega), Bool.or_false]
  have same : f.overrange.set n f.overrange[n] = f.overrange := Vector.set_getElem_self ..
  rw [countCycles, value, within, same]

theorem FrontEnd.countCycles_one_of_full {f : FrontEnd} {n : Fin 8} (full : f.counters[n] = 65535) :
    f.countCycles n 1 = { f with overrange := f.overrange.set n true } := by
  have same : f.counters.set n 65535 = f.counters := by
    rw [← full]
    exact Vector.set_getElem_self ..
  simp [countCycles, full, same]

/-- Counting stops at the range, so cycles may be taken one by one. -/
theorem FrontEnd.countCycles_succ (f : FrontEnd) (n : Fin 8) (k : Nat) :
    f.countCycles n (k + 1) = (f.countCycles n k).countCycles n 1 := by
  have value : min 65535 (min 65535 (f.counters[n] + k) + 1) = min 65535 (f.counters[n] + (k + 1)) := by omega
  have marked : (f.overrange[n] || decide (65535 < f.counters[n] + (k + 1))) =
      (f.overrange[n] || decide (65535 < f.counters[n] + k) ||
        decide (65535 < min 65535 (f.counters[n] + k) + 1)) := by
    rw [Bool.or_assoc, ← Bool.decide_or]
    congr 2
    exact propext (by omega)
  simp only [Fin.getElem_fin] at value marked
  simp [countCycles, value, marked]

theorem exec_oscillatorCycle_of_counting (k : Nat) {n : Fin 8} {s : State} (counting : s.frontEnd.counting = true)
    (configured : n.val < cfgChannelCount s.store.record) :
    exec (.oscillatorCycle n k) s = .next { s with frontEnd := s.frontEnd.countCycles n k } :=
  congrArg Host.Outcome.next (if_pos ⟨counting, (isConfigured_iff_lt_count _ n).mpr configured⟩)

/-! ## The sense pins -/

theorem State.sensePin_of_not_counting {s : State} (p : Fin 8) (not : s.frontEnd.counting = false) :
    s.sensePin p = .heldLow := by
  rw [sensePin, not, Bool.false_and, if_neg Bool.false_ne_true]

theorem State.sensePin_eq_oscillating_iff {s : State} (p : Fin 8) (counting : s.frontEnd.counting = true) :
    s.sensePin p = .oscillating ↔
      ∃ m : Fin 8, m.val < cfgChannelCount s.store.record ∧ descriptorDrive (cfgDescriptor s.store.record m) = p.val := by
  rw [sensePin, counting, Bool.true_and, ite_eq_left_iff]
  simp [mem_allChannels, isConfigured_iff_lt_count]

/-! ## The processing operation -/

theorem Processor.finish_eq (p : Processor) :
    p.finish = { p with
      channels := Vector.ofFn fun n =>
        if p.pendingMask.getLsbD n.val then p.channels[n].calibrating else p.channels[n]
      pendingMask := 0
      inFlight := none
      operationTimer := none } := rfl

theorem Processor.pendingMask_operate (r : ConfigRecord) (h : HandOff) (p : Processor) :
    (p.operate r h).1.pendingMask = p.pendingMask := by
  rw [operate]
  split <;> rfl

theorem State.completeOperation_of_none {s : State} (none : s.processor.inFlight = none) : s.completeOperation = s := by
  rw [completeOperation, none]

theorem State.completeOperation_of_some {s : State} {h : HandOff} (some : s.processor.inFlight = some h) :
    s.completeOperation =
      let r := s.processor.operate s.store.record h
      { s with
        processor := r.1.finish
        queue := r.2.foldl (fun q e => q.arrive { stamp := h.stamp, event := e }) s.queue } := by
  rw [completeOperation, some]
  exact State.foldl_queueAt_eq ..

theorem allChannels_eq : allChannels = List.finRange 8 := rfl

theorem Processor.updated_eq (r : ConfigRecord) (h : HandOff) (p : Processor) (n : Fin 8) :
    p.updated r h n =
      if n.val < cfgChannelCount r then updateChannel r n h.results[n] p.channels[n] else (p.channels[n], none) := by
  simp only [updated, isConfigured_iff_lt_count]

/-- The channel table after the channels have been updated, before the blanket evaluation (R117). -/
def Processor.table (r : ConfigRecord) (h : HandOff) (p : Processor) : Vector ChannelEntry 8 :=
  Vector.ofFn fun n => (p.updated r h n).1

/-- The records of the channels' updates, in channel order (R130). -/
def Processor.records (r : ConfigRecord) (h : HandOff) (p : Processor) : List Event :=
  (List.finRange 8).filterMap fun n => (p.updated r h n).2

theorem Processor.operate_of_lt {r : ConfigRecord} {h : HandOff} {p : Processor} {b : Nat}
    (step : blanketStep r h (p.table r h) p.blanket = b) (below : b < 64) :
    p.operate r h = ({ p with channels := p.table r h, blanket := b }, p.records r h) := by
  subst step
  exact if_neg (Nat.not_le.mpr below)

theorem Processor.operate_of_reached {r : ConfigRecord} {h : HandOff} {p : Processor} {b : Nat}
    (step : blanketStep r h (p.table r h) p.blanket = b) (reached : 64 ≤ b) :
    p.operate r h =
      ({ p with channels := calibrateWhere (isConfigured r) (p.table r h), blanket := 0 },
        p.records r h ++ [.channel 0 .blanket]) := by
  subst step
  exact if_pos reached

theorem blanketStep_of_exempt {r : ConfigRecord} {h : HandOff} {cs : Vector ChannelEntry 8} {k : Nat}
    (exempt : cfgChannelCount r < 2 ∨ ∃ n : Fin 8, n.val < cfgChannelCount r ∧ h.results[n] = none) :
    blanketStep r h cs k = k := by
  rw [blanketStep]
  rcases exempt with few | ⟨n, configured, none⟩
  · exact if_pos few
  · have invalid : (allChannels.any fun n => isConfigured r n && h.results[n].isNone) = true :=
      List.any_eq_true.mpr ⟨n, mem_allChannels n, by
        simp only [none, (isConfigured_iff_lt_count r n).mpr configured, Option.isNone_none, Bool.and_self]⟩
    rw [if_pos invalid, ite_self]

theorem blanketStep_of_valid {r : ConfigRecord} {h : HandOff} {cs : Vector ChannelEntry 8} {k : Nat}
    (many : 2 ≤ cfgChannelCount r) (valid : ¬ ∃ n : Fin 8, n.val < cfgChannelCount r ∧ h.results[n] = none)
    [Decidable (∀ n : Fin 8, n.val < cfgChannelCount r → cs[n].state = .touched)] :
    blanketStep r h cs k = if ∀ n : Fin 8, n.val < cfgChannelCount r → cs[n].state = .touched then k + 1 else 0 := by
  have none : ¬ (allChannels.any fun n => isConfigured r n && h.results[n].isNone) = true := by
    simpa [mem_allChannels, isConfigured_iff_lt_count] using valid
  have all : (allChannels.all fun n => !isConfigured r n || cs[n].state == .touched) = true ↔
      ∀ n : Fin 8, n.val < cfgChannelCount r → cs[n].state = .touched := by
    simp only [List.all_eq_true, mem_allChannels, forall_const, Bool.or_eq_true, Bool.not_eq_true', beq_iff_eq, isConfigured,
      decide_eq_false_iff_not, imp_iff_not_or]
  rw [blanketStep, if_neg (Nat.not_lt.mpr many), if_neg none]
  exact if_congr all rfl rfl

theorem Processor.getElem_table (r : ConfigRecord) (h : HandOff) (p : Processor) (n : Fin 8) :
    (p.table r h)[n] =
      if n.val < cfgChannelCount r then (updateChannel r n h.results[n] p.channels[n]).1 else p.channels[n] := by
  simp only [table, Fin.getElem_fin, Vector.getElem_ofFn, updated_eq]
  split <;> rfl

theorem Processor.records_eq (r : ConfigRecord) (h : HandOff) (p : Processor) :
    p.records r h = (List.finRange 8).filterMap fun n =>
      if n.val < cfgChannelCount r then (updateChannel r n h.results[n] p.channels[n]).2 else none := by
  refine List.filterMap_congr fun n _ => ?_
  rw [updated_eq]
  split <;> rfl

end Sys2Proof.Machine
end

section
/-! CLAIMS. The front end and the channel processor. -/

namespace Sys2Proof.Proofs

open Sys2Proof Sys2Proof.Machine

/-- Settles O41: a cycle counts below the range and marks at it, and cycles in one command come one by one. -/
theorem counterStopsAtItsRange : Obligations.CounterStopsAtItsRange := by
  unfold Obligations.CounterStopsAtItsRange
  intro n s counting configured
  have cycles (k : Nat) := exec_oscillatorCycle_of_counting k counting configured
  refine ⟨fun below => ?_, fun full => ?_, fun k _ => ⟨_, cycles k, ?_⟩, fun w t count => ?_,
    fun p => State.sensePin_eq_oscillating_iff p counting, fun p u => State.sensePin_of_not_counting p⟩
  · rw [cycles, FrontEnd.countCycles_one_of_lt below]
  · rw [cycles, FrontEnd.countCycles_one_of_full full]
  · rw [cycles, FrontEnd.countCycles_succ]
    exact (exec_oscillatorCycle_of_counting 1 (s := { s with frontEnd := s.frontEnd.countCycles n k }) counting
      configured).symm
  · rw [windowResult, Bool.not_true, Bool.and_false, if_neg Bool.false_ne_true]

/-- Settles O42: the operation's table, then the pending mask's channels. -/
theorem processingOperationCompletes : Obligations.ProcessingOperationCompletes := by
  unfold Obligations.ProcessingOperationCompletes
  intro h s some r
  have completes := State.completeOperation_of_some some
  simp only [Processor.finish_eq, Processor.pendingMask_operate] at completes
  exact congrArg Host.Outcome.next completes

/-- Settles O43: by the blanket counter's step after the channels' updates. -/
theorem operationUpdatesChannelsAndBlanket : Obligations.OperationUpdatesChannelsAndBlanket := by
  classical
  unfold Obligations.OperationUpdatesChannelsAndBlanket
  intro r h p configured updated invalid held records
  have each (n : Fin 8) : (p.table r h)[n] = updated n := p.getElem_table r h n
  have holds : (∀ n : Fin 8, n.val < cfgChannelCount r → (p.table r h)[n].state = .touched) ↔ held := by
    simp only [each]
    rfl
  refine ⟨fun exempt low => ?_, fun many valid notHeld => ?_, fun many valid isHeld low => ?_,
    fun many valid isHeld last => ?_⟩
  · rw [Processor.operate_of_lt (blanketStep_of_exempt exempt) low, Processor.records_eq]
    exact ⟨rfl, rfl, each⟩
  · rw [Processor.operate_of_lt ((blanketStep_of_valid many valid).trans (if_neg (holds.not.mpr notHeld))) (by omega),
      Processor.records_eq]
    exact ⟨rfl, rfl, each⟩
  · rw [Processor.operate_of_lt ((blanketStep_of_valid many valid).trans (if_pos (holds.mpr isHeld))) (by omega),
      Processor.records_eq]
    exact ⟨rfl, rfl, each⟩
  · rw [Processor.operate_of_reached ((blanketStep_of_valid many valid).trans (if_pos (holds.mpr isHeld))) (by omega),
      Processor.records_eq, calibrateWhere_isConfigured]
    refine ⟨rfl, rfl, fun n => ?_⟩
    simp only [Fin.getElem_fin, Vector.getElem_ofFn]
    split
    · exact congrArg ChannelEntry.calibrating (each n)
    · next unconfigured => exact (each n).trans (if_neg unconfigured)

end Sys2Proof.Proofs
end

section
/-! SUPPORT. The rise that closes a window in closed form (R108 to R112). -/

namespace Sys2Proof.Machine

theorem gapTicks_eq : gapTicks = 320 := rfl

theorem operationTicks_eq : operationTicks = 200 := rfl

theorem windowAccepted_eq (w t : Nat) : windowAccepted w t = (decide (w ≤ t) && decide (t ≤ 4 * w)) := rfl

theorem windowResult_eq (w t count : Nat) (overrange : Bool) :
    windowResult w t count overrange =
      if windowAccepted w t = true ∧ overrange = false then some (count * w / t) else none := by
  simp only [windowResult, Bool.and_eq_true, Bool.not_eq_true']

theorem FrontEnd.results_eq (r : ConfigRecord) (t : Nat) (f : FrontEnd) :
    f.results r t = Vector.ofFn fun n : Fin 8 =>
      if n.val < cfgChannelCount r ∧ windowAccepted (80 * cfgWindow r) t = true ∧ f.overrange[n] = false then
        some (f.counters[n] * (80 * cfgWindow r) / t)
      else none := by
  simp only [results, windowResult_eq, isConfigured_iff_lt_count, windowTicks, ite_and]

/-- The anomaly's report in one literal (R111). -/
theorem State.reportAnomaly_eq (s : State) :
    s.reportAnomaly = { s with
      frontEnd := { s.frontEnd with
        reportStamp := if s.frontEnd.reportsAnomaly s.bus.stamp then s.bus.stamp else s.frontEnd.reportStamp
        reportArmed := s.frontEnd.reportArmed && !s.frontEnd.reportsAnomaly s.bus.stamp }
      queue :=
        if s.frontEnd.reportsAnomaly s.bus.stamp then s.queue.arrive { stamp := s.bus.stamp, event := .busFault .windowAnomaly }
        else s.queue } := by
  rw [reportAnomaly]
  cases s.frontEnd.reportsAnomaly s.bus.stamp
  · simp only [Bool.false_eq_true, if_false, Bool.not_false, Bool.and_true]
  · simp only [if_true, Bool.not_true, Bool.and_false]
    rfl

/-- The report of a window's anomaly, if it has one and reports it. -/
theorem State.reportAnomaly_unless (accepted : Bool) (s : State) :
    (if accepted = true then s else s.reportAnomaly) =
      let reports := !accepted && s.frontEnd.reportsAnomaly s.bus.stamp
      { s with
        frontEnd := { s.frontEnd with
          reportStamp := if reports then s.bus.stamp else s.frontEnd.reportStamp
          reportArmed := s.frontEnd.reportArmed && !reports }
        queue :=
          if reports then s.queue.arrive { stamp := s.bus.stamp, event := .busFault .windowAnomaly } else s.queue } := by
  cases accepted
  · simp only [Bool.false_eq_true, if_false, Bool.not_false, Bool.true_and]
    exact s.reportAnomaly_eq
  · simp only [if_true, Bool.not_true, Bool.false_and, Bool.false_eq_true, if_false, Bool.not_false, Bool.and_true]

/-- A window that closes with no operation in flight. -/
theorem State.closeWindow_of_idle (s : State) (idle : s.processor.inFlight = none) :
    s.closeWindow =
      let len := s.bus.lowTicks
      let f := { s.frontEnd with counting := false, lastLength := len }
      let accepted := windowAccepted (80 * cfgWindow s.store.record) len
      let reports := !accepted && f.reportsAnomaly s.bus.stamp
      { s with
        bus := { s.bus with phase := .gap, holdTimer := none, gapTimer := some 320 }
        frontEnd := { f with
          reportStamp := if reports then s.bus.stamp else f.reportStamp
          reportArmed := f.reportArmed && !reports }
        queue := if reports then s.queue.arrive { stamp := s.bus.stamp, event := .busFault .windowAnomaly } else s.queue
        processor := { s.processor with
          inFlight := some { stamp := s.bus.stamp, results := s.frontEnd.results s.store.record len }
          operationTimer := some 200 } } := by
  rw [closeWindow, State.completeOperation_of_none idle]
  simp only [State.reportAnomaly_unless]
  rfl

end Sys2Proof.Machine
end

section
/-! CLAIMS. The end of a window. -/

namespace Sys2Proof.Proofs

open Sys2Proof Sys2Proof.Machine

/-- Settles O29: below the break limit the rise closes the window alone. -/
theorem riseClosesTheWindow : Obligations.RiseClosesTheWindow := by
  unfold Obligations.RiseClosesTheWindow
  intro low dat s isLow window idle short len w accepted reports
  have within : (s.bus.lowAtLeast low).WithinLimits :=
    .of_not_slot (by simp [Bus.lowAtLeast, window, Phase.isSlot]) (fun _ => short)
      (.inr (.inr (Nat.lt_trans short (by decide))))
  have closes := ({ s with bus := s.bus.risen low } : State).closeWindow_of_idle idle
  simp only [FrontEnd.results_eq] at closes
  rw [exec_syncRise_of_within low dat s isLow within,
    State.riseInPhase_of_window dat { s with bus := s.bus.risen low } window, closes]
  rfl

end Sys2Proof.Proofs
end

section
/-! SUPPORT. The lamp's transitions and the pump's table (R162 to R168). -/

namespace Sys2Proof.Machine

theorem minPumpTicks_eq (r : ConfigRecord) : minPumpTicks r = 80000 * cfgMinPump r := by
  rw [minPumpTicks, ticksOfMicros, ← Nat.mul_assoc]

namespace Indicator

theorem preClearEnds_of_demand {i : Indicator} (r : ConfigRecord) (demand : i.demand = true) :
    i.preClearEnds r = { i with
      phase := .pumping
      clearTimer := none
      minPumpTimer := if 80000 * cfgMinPump r = 0 then none else some (80000 * cfgMinPump r)
      elapsed := decide (80000 * cfgMinPump r = 0)
      pumpHigh := true
      pumpPos := 0 } := by
  rw [preClearEnds, if_pos demand, enterPumping]
  simp only [minPumpTicks_eq]

theorem preClearEnds_of_no_demand {i : Indicator} (r : ConfigRecord) (none : i.demand = false) :
    i.preClearEnds r = { i with phase := .dark, clearTimer := Option.none } := if_neg (by simp [none])

theorem minPumpExpires_of_demand {i : Indicator} (r : ConfigRecord) (demand : i.demand = true) :
    i.minPumpExpires r = { i with minPumpTimer := none, elapsed := true } := if_pos demand

theorem minPumpExpires_of_no_demand {i : Indicator} (r : ConfigRecord) (none : i.demand = false) :
    i.minPumpExpires r = { i with
      phase := .postClear
      clearTimer := some (800 * cfgClearPulse r)
      minPumpTimer := Option.none
      elapsed := true
      pumpHigh := false
      pumpPos := 0 } := by
  rw [← clearTicks_eq]
  exact if_neg (by simp [none])

theorem postClearEnds_of_demand {i : Indicator} (r : ConfigRecord) (demand : i.demand = true) :
    i.postClearEnds r = { i with phase := .preClear, clearTimer := some (800 * cfgClearPulse r) } := by
  rw [← clearTicks_eq]
  exact if_pos demand

theorem postClearEnds_of_no_demand {i : Indicator} (r : ConfigRecord) (none : i.demand = false) :
    i.postClearEnds r = { i with phase := .dark, clearTimer := Option.none } := if_neg (by simp [none])

end Indicator

/-! ## The commands of the lamp, each in its phase -/

theorem exec_preClearEnd_of_phase {s : State} (phase : s.indicator.phase = .preClear) :
    exec .preClearEnd s = .next { s with indicator := s.indicator.preClearEnds s.store.record } :=
  congrArg Host.Outcome.next (if_pos phase)

theorem exec_postClearEnd_of_phase {s : State} (phase : s.indicator.phase = .postClear) :
    exec .postClearEnd s = .next { s with indicator := s.indicator.postClearEnds s.store.record } :=
  congrArg Host.Outcome.next (if_pos phase)

theorem exec_minimumPumpTimerExpiry_of_phase {s : State} (phase : s.indicator.phase = .pumping)
    (runs : s.indicator.minPumpTimer.isSome = true) :
    exec .minimumPumpTimerExpiry s = .next { s with indicator := s.indicator.minPumpExpires s.store.record } :=
  congrArg Host.Outcome.next (if_pos ⟨phase, runs⟩)

/-! ## The pins -/

theorem State.clearPin_iff (s : State) :
    s.clearPin = true ↔ s.indicator.phase = .preClear ∨ s.indicator.phase = .postClear := by
  simp only [clearPin, Bool.or_eq_true, beq_iff_eq]

theorem State.pumpPin_of_pumping {s : State} (pumping : s.indicator.phase = .pumping) :
    s.pumpPin = s.indicator.pumpHigh := by
  rw [pumpPin, pumping, beq_self_eq_true, Bool.true_and]

theorem State.pumpPin_of_not_pumping {s : State} (not : s.indicator.phase ≠ .pumping) : s.pumpPin = false := by
  rw [pumpPin, beq_false_of_ne not, Bool.false_and]

/-! ## The pump's table (R165) -/

theorem cfgDuty_lt (r : ConfigRecord) : cfgDuty r < 4 := by
  have byte : recordNat r 16 < 256 := BitVec.isLt _
  rw [cfgDuty_eq]
  omega

end Sys2Proof.Machine
end

section
/-! CLAIMS. The lamp. -/

namespace Sys2Proof.Proofs

open Sys2Proof Sys2Proof.Machine

/-- Settles O46: each timer's end by the demand, the pins by the phase, and the pump's times by select and duty code. -/
theorem lampTimersAndPumpEdges : Obligations.LampTimersAndPumpEdges := by
  unfold Obligations.LampTimersAndPumpEdges
  refine ⟨fun s => ?_, fun s => ⟨s.clearPin_iff, State.pumpPin_of_not_pumping⟩, fun s pumping => ?_, fun r select => ?_⟩
  · intro i pulse least
    refine ⟨fun phase demand => ?_, fun phase demand => ?_, fun phase runs demand => ?_, fun phase runs demand => ?_,
      fun phase demand => ?_, fun phase demand => ?_⟩
    · rw [exec_preClearEnd_of_phase phase, Indicator.preClearEnds_of_demand _ demand]
    · rw [exec_preClearEnd_of_phase phase, Indicator.preClearEnds_of_no_demand _ demand]
    · rw [exec_minimumPumpTimerExpiry_of_phase phase runs, Indicator.minPumpExpires_of_demand _ demand]
    · rw [exec_minimumPumpTimerExpiry_of_phase phase runs, Indicator.minPumpExpires_of_no_demand _ demand]
    · rw [exec_postClearEnd_of_phase phase, Indicator.postClearEnds_of_demand _ demand]
    · rw [exec_postClearEnd_of_phase phase, Indicator.postClearEnds_of_no_demand _ demand]
  · exact ⟨fun high => congrArg Host.Outcome.next (if_pos ⟨pumping, high⟩), congrArg Host.Outcome.next (if_pos pumping),
      State.pumpPin_of_pumping pumping⟩
  · have duty := cfgDuty_lt r
    rw [pumpHighTicks, pumpPeriod]
    generalize cfgPumpSelect r = n at *
    generalize cfgDuty r = d at *
    interval_cases n <;> interval_cases d <;> decide

end Sys2Proof.Proofs
end

section
/-! SUPPORT. An arriving record's effect by what the queue holds (R153 to R156). -/

namespace Sys2Proof.Machine

theorem EventRecord.isMoveOf_eq_false_iff (id : Nat) (r : EventRecord) :
    r.isMoveOf id = false ↔ ∀ p st, r.event ≠ .touchMove id p st := by
  rw [← Bool.not_eq_true, r.isMoveOf_iff id]
  push Not
  rfl

theorem EventRecord.isEndOf_iff (id : Nat) (r : EventRecord) :
    r.isEndOf id = true ↔ ∃ p st, r.event = .touchUp id p st ∨ r.event = .touchLost id p st := by
  obtain ⟨w, e⟩ := r
  cases e <;> simp [EventRecord.isEndOf]

namespace EventQueue

theorem findIdx?_move_of_split {id : Nat} {m : EventRecord} {before after : List EventRecord} (move : m.isMoveOf id = true)
    (none : ∀ x ∈ before, x.isMoveOf id = false) :
    (before ++ m :: after).findIdx? (EventRecord.isMoveOf id) = some before.length := by
  rw [List.findIdx?_append, List.findIdx?_eq_none_iff.mpr none, List.findIdx?_cons, if_pos move]
  simp

/-- The latch where the latched head is met by a move that coalesces into it. -/
theorem latch_of_coalesced (i : Nat) (l : Option Latch) :
    (if i = 0 then l.map (fun l => if l = .intact then Latch.changed else l) else l) =
      if i = 0 ∧ l = some .intact then some .changed else l := by
  by_cases head : i = 0
  · rcases l with - | - | - | - <;> simp [head]
  · simp [head]

/-- The latch where the latched head is met by a move that supersedes it. -/
theorem latch_of_superseded (i : Nat) (l : Option Latch) :
    (if i = 0 then l.map (fun _ => Latch.gone) else l) = if i = 0 ∧ l ≠ none then some .gone else l := by
  by_cases head : i = 0
  · cases l <;> simp [head]
  · simp [head]

variable {q : EventQueue} {id : Nat} {m : EventRecord} {before after : List EventRecord}

theorem any_isEndOf_drop_iff (split : q.records = before ++ m :: after) :
    (q.records.drop (before.length + 1)).any (EventRecord.isEndOf id) = true ↔
      ∃ x ∈ after, ∃ p st, x.event = .touchUp id p st ∨ x.event = .touchLost id p st := by
  rw [split, ← List.drop_drop, List.drop_left]
  simp only [List.drop_one, List.tail_cons, List.any_eq_true, EventRecord.isEndOf_iff]

theorem meetMove_of_not_ended (split : q.records = before ++ m :: after) (r : EventRecord)
    (not : ¬ ∃ x ∈ after, ∃ p st, x.event = .touchUp id p st ∨ x.event = .touchLost id p st) :
    q.meetMove id before.length r =
      { q with
        records := before ++ r :: after
        latch := if before = [] ∧ q.latch = some .intact then some .changed else q.latch } := by
  have place : (before ++ m :: after).set before.length r = before ++ r :: after := by simp
  rw [meetMove, if_neg ((any_isEndOf_drop_iff split).not.mpr not), latch_of_coalesced, split, place]
  simp only [List.length_eq_zero_iff]

theorem meetMove_of_ended (split : q.records = before ++ m :: after) (r : EventRecord)
    (ended : ∃ x ∈ after, ∃ p st, x.event = .touchUp id p st ∨ x.event = .touchLost id p st) :
    q.meetMove id before.length r =
      { q with
        records := before ++ after ++ [r]
        latch := if before = [] ∧ q.latch ≠ none then some .gone else q.latch } := by
  have place : (before ++ m :: after).eraseIdx before.length = before ++ after := by
    rw [List.eraseIdx_append_of_length_le (Nat.le_refl _)]
    simp
  rw [meetMove, if_pos ((any_isEndOf_drop_iff split).mpr ended), latch_of_superseded, split, place]
  simp only [List.length_eq_zero_iff]

end EventQueue

end Sys2Proof.Machine
end

section
/-! CLAIMS. Arrivals at the queue. -/

namespace Sys2Proof.Proofs

open Sys2Proof Sys2Proof.Machine

/-- Settles O47: a record that meets no move of its id is appended; a move that meets one does so at that one's place. -/
theorem recordArrivesAtTheQueue : Obligations.RecordArrivesAtTheQueue := by
  unfold Obligations.RecordArrivesAtTheQueue
  intro w q
  refine ⟨fun e free => ?_, ?_, fun s => ?_⟩
  · have appends : q.arrive { stamp := w, event := e } = q.append { stamp := w, event := e } :=
      q.arrive_eq_append _ fun id p st is => List.findIdx?_eq_none_iff.mpr fun x mem =>
        (x.isMoveOf_eq_false_iff id).mpr (free id p st is x mem)
    rw [appends]
    exact ⟨fun room => if_pos room, fun full => if_neg (Nat.not_lt.mpr full)⟩
  · intro id p st p' st' w' before after split first ended new
    have found : q.records.findIdx? (EventRecord.isMoveOf id) = some before.length := by
      rw [split]
      exact EventQueue.findIdx?_move_of_split ((EventRecord.isMoveOf_iff id _).mpr ⟨p', st', rfl⟩)
        fun x mem => (x.isMoveOf_eq_false_iff id).mpr (first x mem)
    rw [q.arrive_eq_meetMove w id p st _ found]
    exact ⟨EventQueue.meetMove_of_not_ended split _, EventQueue.meetMove_of_ended split _⟩
  · simp [State.attnLow]

end Sys2Proof.Proofs
end

section
/-! SUPPORT. The winner checks in closed form (R32 to R39). -/

namespace Sys2Proof.Machine

/-! ## The checks by name -/

/-- A winner's value is the number its assembly spells (R32). -/
theorem Winner.value_split (n : Nat) : Winner.value { strength := n / 256, position := n % 256 } = n :=
  Nat.div_add_mod n 256

theorem State.findsConflict_iff (w : Winner) (s : State) :
    s.findsConflict w = true ↔
      (s.agreement.membership = .listen ∨ s.agreement.membership = .member) ∧ w.address = cfgAddress s.store.record ∧
        ¬ (s.contest.bidding = true ∧ s.contest.lost = false) := by
  simp only [State.findsConflict, Contest.inContest, Bool.and_eq_true, Bool.or_eq_true, beq_iff_eq, Bool.not_eq_true',
    ← Bool.not_eq_true, and_assoc]

theorem suppressAround_eq (r : ConfigRecord) (p : Nat) (marks : Vector Bool 8) :
    suppressAround r p marks = Vector.ofFn fun n =>
      marks[n] || (decide (n.val < cfgChannelCount r) &&
        decide (((8 * cfgAddress r + n.val : Int) - p).natAbs ≤ cfgSuppression r)) := by
  simp only [suppressAround, isConfigured, distance_eq_natAbs, positionOf, Nat.cast_add, Nat.cast_mul, Nat.cast_ofNat]

namespace State

variable {s : State} {w : Winner}

theorem checkWinner_of_phantom (is : winnerOf s.contest.assembly = w) (phantom : s.isPhantom w = true) :
    s.checkWinner = { s.withRecord (.busFault .phantom) with
      contest := { s.contest with faultMark := true }
      bus := { s.bus with phase := .digestA, bitIndex := 0 } } := by
  subst is
  exact (if_pos phantom).trans (endContests_of_untracked _ (.inr rfl))

theorem enterConflict_eq (s : State) :
    s.enterConflict =
      { ((s.withTracking (s.clearTouches .conflict)).withRecord (.membership .conflict)).withMembership .conflict with
        bus := { s.bus with pendingBreak := false } } := by
  rw [enterConflict, clearTouches_eq]
  rfl

theorem nextContest_of_untracked (s : State) (untracked : s.agreement.membership ≠ .member) :
    s.nextContest =
      { s with bus := { s.bus with phase := if s.bus.contestCount < 4 then .claim else .digestA, bitIndex := 0 } } := by
  rw [nextContest]
  split
  · rfl
  · exact s.endContests_of_untracked (.inl untracked)

theorem checkWinner_of_conflict (is : winnerOf s.contest.assembly = w) (real : ¬ s.isPhantom w = true)
    (conflict : s.findsConflict w = true) :
    s.checkWinner =
      { ((s.withTracking (s.clearTouches .conflict)).withRecord (.membership .conflict)).withMembership .conflict with
        contest := { s.contest with winners := s.contest.winners ++ [w] }
        bus := { s.bus with
          phase := if s.bus.contestCount < 4 then .claim else .digestA
          bitIndex := 0
          pendingBreak := false } } := by
  subst is
  let joined := { s with contest := { s.contest with winners := s.contest.winners ++ [winnerOf s.contest.assembly] } }
  have checks : s.checkWinner = joined.enterConflict.nextContest := (if_neg real).trans (if_pos conflict)
  have tracks : joined.withTracking (joined.clearTouches .conflict) = joined.withTracking (s.clearTouches .conflict) :=
    joined.withTracking_clearTouches .conflict rfl rfl rfl rfl rfl
  rw [checks, enterConflict_eq, tracks, nextContest_of_untracked _ (by nofun)]
  rfl

theorem checkWinner_of_accepted (is : winnerOf s.contest.assembly = w) (real : ¬ s.isPhantom w = true)
    (agreed : ¬ s.findsConflict w = true) :
    s.checkWinner = nextContest { s with contest := s.contest.accept s.store.record w } := by
  subst is
  exact (if_neg real).trans (if_neg agreed)

/-- The last bid slot of a contest: the checks of what the 20 slots spell (R32). -/
theorem bidResult_of_last (s : State) (dat : Bool) (last : s.bus.bitIndex = 19) :
    s.bidResult dat = checkWinner { s with contest := s.contest.readBack dat s.bus.datDrive } :=
  if_neg (by omega)

end State

/-- An accepted winner (R36, R37). -/
theorem Contest.accept_eq (r : ConfigRecord) (w : Winner) (c : Contest) :
    c.accept r w = { c with
      winners := c.winners ++ [w]
      won := Vector.ofFn fun n =>
        c.won[n] || (c.bidding && !c.lost && decide (∃ b, c.bid = some b ∧ b.channel = n))
      suppressed := Vector.ofFn fun n =>
        c.suppressed[n] || (decide (n.val < cfgChannelCount r) &&
          decide (((8 * cfgAddress r + n.val : Int) - w.position).natAbs ≤ cfgSuppression r)) } := by
  rw [Contest.accept, Contest.markWon_eq, suppressAround_eq]

end Sys2Proof.Machine
end

section
/-! CLAIMS. The winner of a contest. -/

namespace Sys2Proof.Proofs

open Sys2Proof Sys2Proof.Machine

/-- Settles O33: the checks of R33 and R34 on what the 20 slots spell, in their order. -/
theorem twentiethBidSlotDecidesTheWinner : Obligations.TwentiethBidSlotDecidesTheWinner := by
  unfold Obligations.TwentiethBidSlotDecidesTheWinner
  intro low dat s slotLow bid last length bits c strength position address winner done phantom own conflict digests claims
    taken
  let v : State := { s.slotTaken low with contest := c }
  have reads : exec (.syncRise low dat) s = .next v.checkWinner.slotDone := by
    rw [exec_syncRise_of_bid low dat s slotLow bid, (s.slotTaken low).bidResult_of_last dat last]
    rfl
  have spells : winnerOf v.contest.assembly = winner := by
    refine winnerOf_eq bits ?_
    rw [List.length_append, length]
    rfl
  have phantom_iff : v.isPhantom winner = true ↔ phantom := by
    rw [State.isPhantom_iff, Winner.value_split]
    rfl
  have conflict_iff : v.findsConflict winner = true ↔ conflict := v.findsConflict_iff winner
  have accepts (real : ¬ phantom) (agreed : ¬ conflict) : v.checkWinner = State.nextContest { v with contest := taken } := by
    rw [State.checkWinner_of_accepted spells (phantom_iff.not.mpr real) (conflict_iff.not.mpr agreed), Contest.accept_eq]
    rfl
  refine ⟨fun is => ?_, fun real is => ?_, fun real agreed below => ?_, fun real agreed full => ?_⟩
  · exact reads.trans (congrArg (fun u : State => Host.Outcome.next u.slotDone)
      (State.checkWinner_of_phantom spells (phantom_iff.mpr is)))
  · have checks := State.checkWinner_of_conflict spells (phantom_iff.not.mpr real) (conflict_iff.mpr is)
    have tracks : v.withTracking (v.clearTouches .conflict) = v.withTracking (s.clearTouches .conflict) :=
      v.withTracking_clearTouches .conflict rfl rfl rfl rfl rfl
    rw [tracks] at checks
    rw [reads, checks]
    by_cases below : s.bus.contestCount < 4
    · have below' : v.bus.contestCount < 4 := below
      rw [if_pos below, if_pos below']
      rfl
    · have full : ¬ v.bus.contestCount < 4 := below
      rw [if_neg below, if_neg full]
      rfl
  · have next : State.nextContest { v with contest := taken } =
        { v with contest := taken, bus := { v.bus with phase := .claim, bitIndex := 0 } } := if_pos below
    rw [reads, accepts real agreed, next]
    rfl
  · have next : State.nextContest { v with contest := taken } = State.endContests { v with contest := taken } := if_neg full
    have tracks := State.withTracking_afterContests done (s := { s with contest := taken }) (t := { v with contest := taken })
      rfl rfl rfl rfl rfl rfl rfl rfl
    rw [reads, accepts real agreed, next, ← tracks]
    exact congrArg (fun u : State => Host.Outcome.next u.slotDone) (State.endContests_eq _)

end Sys2Proof.Proofs
end

section
/-! SUPPORT. Arbitration among several stations: bit by bit, the line spells the highest value (R30, R31). -/

namespace Sys2Proof.Machine

/-! ## Values by their leading bits -/

theorem div_two_pow_eq (x n : Nat) : x / 2 ^ n = 2 * (x / 2 ^ (n + 1)) + (x.testBit n).toNat := by
  rw [Nat.toNat_testBit, pow_succ, ← Nat.div_div_eq_div_mul]
  omega

/-- Two values agree down to bit `n` where they agree above it and in it. -/
theorem div_two_pow_eq_iff (x y n : Nat) :
    x / 2 ^ n = y / 2 ^ n ↔ x / 2 ^ (n + 1) = y / 2 ^ (n + 1) ∧ x.testBit n = y.testBit n := by
  rw [div_two_pow_eq x n, div_two_pow_eq y n]
  cases x.testBit n <;> cases y.testBit n <;> simp <;> omega

/-- A value with a bit that a greater one with the same bits above lacks does not exist. -/
theorem testBit_of_le {x y n : Nat} (le : x ≤ y) (above : x / 2 ^ (n + 1) = y / 2 ^ (n + 1)) (bit : x.testBit n = true) :
    y.testBit n = true := by
  have leading : x / 2 ^ n ≤ y / 2 ^ n := Nat.div_le_div_right le
  rw [div_two_pow_eq x n, div_two_pow_eq y n, above, bit] at leading
  by_contra clear
  rw [Bool.eq_false_of_not_eq_true clear] at leading
  simp at leading

theorem natOfBits_leading (v k : Nat) (few : k ≤ 20) (small : v < 2 ^ 20) :
    natOfBits ((List.range k).map fun i => v.testBit (19 - i)) = v / 2 ^ (20 - k) := by
  induction k with
  | zero => exact (Nat.div_eq_of_lt small).symm
  | succ k ih =>
    have place : 20 - k = 19 - k + 1 := by omega
    rw [List.range_succ, List.map_append, List.map_singleton, natOfBits_append, ih (by omega), place,
      show 20 - (k + 1) = 19 - k by omega, div_two_pow_eq v (19 - k)]

/-! ## A contest unit during arbitration -/

namespace Contest

/-- The value of the unit's bid, 0 where it has none. -/
def offer (c : Contest) : Nat := (c.bid.map Bid.value).getD 0

/-- The unit after `k` bid slots of a contest whose highest bid is `v`: it has assembled the first `k` bits of `v`, and its
bid has lost where it differs from `v` in them. -/
def arbitrated (v k : Nat) (c : Contest) : Contest :=
  { c with
    assembly := (List.range k).map fun i => v.testBit (19 - i)
    lost := c.bidding && !decide (c.offer / 2 ^ (20 - k) = v / 2 ^ (20 - k)) }

theorem offer_of_bid {c : Contest} {b : Bid} (bid : c.bid = some b) : c.offer = b.value := by
  rw [offer, bid]
  rfl

theorem bidBit_eq (i : Nat) (c : Contest) : c.bidBit i = c.offer.testBit (19 - i) := by
  rw [bidBit, offer]
  cases c.bid with
  | none => exact (Nat.zero_testBit _).symm
  | some b => rfl

theorem bidBit_arbitrated (v k i : Nat) (c : Contest) : (c.arbitrated v k).bidBit i = c.offer.testBit (19 - i) :=
  bidBit_eq i _

theorem inContest_arbitrated (v k : Nat) (c : Contest) :
    (c.arbitrated v k).inContest = (c.bidding && decide (c.offer / 2 ^ (20 - k) = v / 2 ^ (20 - k))) := by
  cases bidding : c.bidding <;> simp [inContest, arbitrated, bidding]

/-- A slot in which the line carries the next bit of the highest bid. -/
theorem readBack_arbitrated (v k : Nat) (c : Contest) (few : k < 20) :
    (c.arbitrated v k).readBack (v.testBit (19 - k)) ((c.arbitrated v k).inContest && (c.arbitrated v k).bidBit k) =
      c.arbitrated v (k + 1) := by
  have next := div_two_pow_eq_iff c.offer v (19 - k)
  rw [show 19 - k + 1 = 20 - k by omega] at next
  rw [inContest_arbitrated, bidBit_arbitrated]
  simp only [readBack, arbitrated, List.range_succ, List.map_append, List.map_singleton, show 20 - (k + 1) = 19 - k by omega,
    next]
  cases c.bidding with
  | false => rfl
  | true =>
    by_cases same : c.offer / 2 ^ (20 - k) = v / 2 ^ (20 - k)
    · cases c.offer.testBit (19 - k) <;> cases v.testBit (19 - k) <;> simp [same]
    · simp [same]

end Contest

/-! ## The units side by side -/

/-- `v` is the highest value that a unit bids. -/
structure HighestBid (cs : List Contest) (v : Nat) : Prop where
  bound : ∀ c ∈ cs, c.bidding = true → c.offer ≤ v
  bidder : ∃ c ∈ cs, c.bidding = true ∧ c.offer = v

namespace HighestBid

variable {cs : List Contest} {v : Nat}

/-- The line carries the next bit of the highest bid (R30). -/
theorem line_eq (highest : HighestBid cs v) {k : Nat} (few : k < 20) :
    ((cs.map (Contest.arbitrated v k)).any fun c => c.inContest && c.bidBit k) = v.testBit (19 - k) := by
  obtain ⟨bound, best, mem, bids, offer⟩ := highest
  have place : 20 - k = 19 - k + 1 := by omega
  rw [Bool.eq_iff_iff, List.any_map, List.any_eq_true]
  simp only [Function.comp_apply, Contest.inContest_arbitrated, Contest.bidBit_arbitrated, Bool.and_eq_true,
    decide_eq_true_eq, place]
  constructor
  · rintro ⟨c, isUnit, ⟨bidding, above⟩, bit⟩
    exact testBit_of_le (bound c isUnit bidding) above bit
  · intro bit
    exact ⟨best, mem, ⟨bids, by rw [offer]⟩, by rw [offer, bit]⟩

theorem bidSlot_arbitrated (highest : HighestBid cs v) {k : Nat} (few : k < 20) :
    bidSlot k (cs.map (Contest.arbitrated v k)) = cs.map (Contest.arbitrated v (k + 1)) := by
  rw [bidSlot, highest.line_eq few]
  simp only [List.map_map]
  exact List.map_congr_left fun c _ => Contest.readBack_arbitrated v k c few

theorem foldl_bidSlot (highest : HighestBid cs v) (start : cs.map (Contest.arbitrated v 0) = cs) {k : Nat} (few : k ≤ 20) :
    (List.range k).foldl (fun us i => bidSlot i us) cs = cs.map (Contest.arbitrated v k) := by
  induction k with
  | zero => exact start.symm
  | succ k ih =>
    rw [List.range_succ, List.foldl_append, ih (by omega)]
    exact highest.bidSlot_arbitrated few

end HighestBid

/-- Before the first slot nothing is assembled and nothing has lost, as the values have 20 bits. -/
theorem Contest.arbitrated_zero {v : Nat} {c : Contest} (small : v < 2 ^ 20) (offer : c.bidding = true → c.offer < 2 ^ 20)
    (kept : c.lost = false) (empty : c.assembly = []) : c.arbitrated v 0 = c := by
  have lost : (c.bidding && !decide (c.offer / 2 ^ 20 = v / 2 ^ 20)) = c.lost := by
    rw [kept, Bool.and_eq_false_imp]
    intro bidding
    rw [Nat.div_eq_of_lt small, Nat.div_eq_of_lt (offer bidding)]
    rfl
  rw [arbitrated, lost, List.range_zero, List.map_nil, ← empty]

end Sys2Proof.Machine
end

section
/-! CLAIMS. A contest among several stations. -/

namespace Sys2Proof.Proofs

open Sys2Proof Sys2Proof.Machine

/-- Settles O52: after every slot each unit has assembled the leading bits of the highest bid, and the bidders left are those
whose bids begin with them. -/
theorem contestFindsTheHighestBid : Obligations.ContestFindsTheHighestBid := by
  unfold Obligations.ContestFindsTheHighestBid
  intro cs bids fresh some small distinct ended
  have mem_bids (b : Bid) : b ∈ bids ↔ ∃ c ∈ cs, c.bidding = true ∧ c.bid = Option.some b := by
    simp [bids, List.mem_filterMap]
  have bid_of {c : Contest} (mem : c ∈ cs) (bidding : c.bidding = true) : ∃ b ∈ bids, c.bid = Option.some b := by
    obtain ⟨-, -, isSome⟩ := fresh c mem
    obtain ⟨b, bid⟩ := Option.isSome_iff_exists.mp (isSome bidding)
    exact ⟨b, (mem_bids b).mpr ⟨c, mem, bidding, bid⟩, bid⟩
  obtain ⟨best, isBid, most⟩ := bids.toFinset.exists_max_image Bid.value (List.toFinset_nonempty_iff bids |>.mpr some)
  simp only [List.mem_toFinset] at isBid most
  have highest : HighestBid cs best.value := by
    refine ⟨fun c mem bidding => ?_, ?_⟩
    · obtain ⟨b, isBid, bid⟩ := bid_of mem bidding
      rw [Contest.offer_of_bid bid]
      exact most b isBid
    · obtain ⟨c, mem, bidding, bid⟩ := (mem_bids best).mp isBid
      exact ⟨c, mem, bidding, Contest.offer_of_bid bid⟩
  have start : cs.map (Contest.arbitrated best.value 0) = cs := by
    refine (List.map_congr_left fun c mem => ?_).trans cs.map_id
    obtain ⟨kept, empty, -⟩ := fresh c mem
    refine Contest.arbitrated_zero (small best isBid) (fun bidding => ?_) kept empty
    obtain ⟨b, isBid, bid⟩ := bid_of mem bidding
    rw [Contest.offer_of_bid bid]
    exact small b isBid
  have ends : ended = cs.map (Contest.arbitrated best.value 20) := highest.foldl_bidSlot start (Nat.le_refl 20)
  refine ⟨best, isBid, most, ?_, ?_⟩
  · rw [ends, List.map_map]
    rfl
  · rw [ends]
    intro u isEnded
    obtain ⟨c, mem, rfl⟩ := List.mem_map.mp isEnded
    refine ⟨by simp [Contest.arbitrated], ?_, fun bidding => ?_⟩
    · exact (natOfBits_leading best.value 20 (Nat.le_refl 20) (small best isBid)).trans (Nat.div_one _)
    · have bidding : c.bidding = true := bidding
      obtain ⟨b, isBid', bid⟩ := bid_of mem bidding
      have lost : (c.arbitrated best.value 20).lost = false ↔ b.value = best.value := by
        simp [Contest.arbitrated, bidding, Contest.offer_of_bid bid]
      rw [lost]
      show b.value = best.value ↔ c.bid = Option.some best
      rw [bid, Option.some_inj]
      exact ⟨List.inj_on_of_nodup_map distinct isBid' isBid, congrArg Bid.value⟩

end Sys2Proof.Proofs
end
